-- ==== Sys2Proof/Word.lean ====
section
/-! DEFINITION. The byte and the 16-bit word of the earcli Frame Codec Block (spec/00_scope.md R9, R10). -/

namespace Sys2Proof

/-- A byte: an unsigned 8-bit value, 0x00 to 0xFF (spec/00_scope.md R9). -/
abbrev Byte := BitVec 8

/-- A 16-bit value: CLASS, the checksum and the trailer (spec/20_memory.md R54, R56). -/
abbrev Half := BitVec 16

end Sys2Proof
end

