-- ==== Sys2Proof/Config.lean ====
section
/-! DEFINITION. What is fixed for the machine: the buffer capacities (spec/00_scope.md R7) and the one open
parameter that no state holds, `lossyText` (R8). The other open parameter, `deviceResponse`, is held in State
as the draws still to come (notes/assumptions/5.md). -/

namespace Sys2Proof.Config

/-- TX_CAP, the transmit buffer's capacity in bytes: the longest outbound frame (spec/00_scope.md R7). -/
def txCap : Nat := 13

/-- RX_CAP, the receive buffer's capacity in bytes: 8 + 255 + 2, the longest whole firmware response
(spec/00_scope.md R7). -/
def rxCap : Nat := 265

/-- STR_CAP, the result string's capacity in bytes (spec/00_scope.md R7). -/
def strCap : Nat := 255

/-- The host's lossy text decoder, OPEN (spec/00_scope.md R8, 41_decoder.md R135, 92 D11): no body, so nothing
can be proved of its value; that it is total, never fails and depends on its bytes alone is its type.
Free value; safe (notes/assumptions/8.md). -/
opaque lossyText : List Byte → String

end Sys2Proof.Config
end

