-- ==== Sys2Proof/Syntax.lean ====
section
/-! DEFINITION. The operations of the FCB: one constructor per row of the operation map
(spec/30_encoding.md R74, opcode_table.json). No operation has an operand field (R71, R73). -/

namespace Sys2Proof

/-- The fifteen operations (spec/30_encoding.md R74). -/
inductive Instr where
  /-- ENC.QANC, word 0x01 (spec/40_encoder.md R102). -/
  | encQanc
  /-- ENC.QFW, word 0x02 (spec/40_encoder.md R109). -/
  | encQfw
  /-- ENC.QSER, word 0x03 (spec/40_encoder.md R110). -/
  | encQser
  /-- ENC.SETANC.HIGH, word 0x11 (spec/40_encoder.md R103). -/
  | encSetancHigh
  /-- ENC.SETANC.MID, word 0x12 (spec/40_encoder.md R104). -/
  | encSetancMid
  /-- ENC.SETANC.LOW, word 0x13 (spec/40_encoder.md R105). -/
  | encSetancLow
  /-- ENC.SETANC.ADAPTIVE, word 0x14 (spec/40_encoder.md R106). -/
  | encSetancAdaptive
  /-- ENC.SETANC.OFF, word 0x15 (spec/40_encoder.md R107). -/
  | encSetancOff
  /-- ENC.SETANC.TRANSPARENCY, word 0x17 (spec/40_encoder.md R108). -/
  | encSetancTransparency
  /-- DEC.ANC, word 0x20 (spec/41_decoder.md R131). -/
  | decAnc
  /-- DEC.FWLEN, word 0x21 (spec/41_decoder.md R132). -/
  | decFwlen
  /-- DEC.FWSTR, word 0x22 (spec/41_decoder.md R133). -/
  | decFwstr
  /-- DEC.SER, word 0x23 (spec/41_decoder.md R134). -/
  | decSer
  /-- CHK.GEN, word 0x30 (spec/42_checksum.md R164). -/
  | chkGen
  /-- CHK.VAL, word 0x31 (spec/42_checksum.md R165). -/
  | chkVal
deriving DecidableEq, Repr

end Sys2Proof
end

