-- ==== Sys2Proof/WellFormed.lean ====
section
/-! DEFINITION. Which operation words are reserved (spec/30_encoding.md R75), written from R75's own list and
not from the decoder, and the well-formedness of an instruction. -/

namespace Sys2Proof

/-- The reserved operation words, range by range as spec/30_encoding.md R75 lists them. -/
def reservedWord (w : Byte) : Bool :=
  let n := w.toNat
  n == 0x00 || (0x04 ≤ n && n ≤ 0x0F) || n == 0x10 || n == 0x16 || (0x18 ≤ n && n ≤ 0x1F)
    || (0x24 ≤ n && n ≤ 0x2F) || (0x32 ≤ n && n ≤ 0xFF)

/-- The check on an operation word: it is not reserved (spec/30_encoding.md R74, R75). -/
def wellFormedWord (w : Byte) : Bool := !reservedWord w

/-- The check on an instruction. An operation has no register field and no immediate (spec/30_encoding.md R71,
R73), so that no term of `Instr` is ill formed; the check that can fail is `wellFormedWord`. -/
def Instr.wellFormed : Instr → Bool
  | .encQanc => true
  | .encQfw => true
  | .encQser => true
  | .encSetancHigh => true
  | .encSetancMid => true
  | .encSetancLow => true
  | .encSetancAdaptive => true
  | .encSetancOff => true
  | .encSetancTransparency => true
  | .decAnc => true
  | .decFwlen => true
  | .decFwstr => true
  | .decSer => true
  | .chkGen => true
  | .chkVal => true

end Sys2Proof
end

