-- ==== Sys2Proof/Decode.lean ====
section
/-! DEFINITION. The decoder of operation words, total on any bytes and rejecting by name, and after it the
encoder (spec/30_encoding.md R70 to R76). -/

namespace Sys2Proof

/-- UNIT, bits 7:4 of an operation word (spec/30_encoding.md R71). -/
def unitField (w : Byte) : BitVec 4 := w.extractLsb' 4 4

/-- SEL, bits 3:0 of an operation word (spec/30_encoding.md R71). -/
def selField (w : Byte) : BitVec 4 := w.extractLsb' 0 4

/-- The operation map by UNIT and SEL (spec/30_encoding.md R71, R72, R74). -/
def decodeWord (w : Byte) : Option Instr :=
  match (unitField w).toNat, (selField w).toNat with
  | 0x0, 0x1 => some .encQanc
  | 0x0, 0x2 => some .encQfw
  | 0x0, 0x3 => some .encQser
  | 0x1, 0x1 => some .encSetancHigh
  | 0x1, 0x2 => some .encSetancMid
  | 0x1, 0x3 => some .encSetancLow
  | 0x1, 0x4 => some .encSetancAdaptive
  | 0x1, 0x5 => some .encSetancOff
  | 0x1, 0x7 => some .encSetancTransparency
  | 0x2, 0x0 => some .decAnc
  | 0x2, 0x1 => some .decFwlen
  | 0x2, 0x2 => some .decFwstr
  | 0x2, 0x3 => some .decSer
  | 0x3, 0x0 => some .chkGen
  | 0x3, 0x1 => some .chkVal
  | _, _ => none

/-- Why the decoder refuses. -/
inductive DecodeReject where
  /-- The word is one of R75's reserved words; issuing it raises ILLEGAL_OP (spec/60_exceptions.md R205). -/
  | reserved (w : Byte)
  /-- There is no byte to decode. -/
  | noWord
deriving DecidableEq, Repr

/-- Reads one operation from a list of bytes: every operation word is exactly one byte, and a decoder needs no
length rule (spec/30_encoding.md R70). -/
def decode : List Byte → Except DecodeReject (Instr × List Byte)
  | [] => .error .noWord
  | w :: rest =>
    match decodeWord w with
    | some i => .ok (i, rest)
    | none => .error (.reserved w)

/-- The operation word of an instruction, UNIT above SEL (spec/30_encoding.md R71, R74). -/
def encodeWord : Instr → Byte
  | .encQanc => 0x0#4 ++ 0x1#4
  | .encQfw => 0x0#4 ++ 0x2#4
  | .encQser => 0x0#4 ++ 0x3#4
  | .encSetancHigh => 0x1#4 ++ 0x1#4
  | .encSetancMid => 0x1#4 ++ 0x2#4
  | .encSetancLow => 0x1#4 ++ 0x3#4
  | .encSetancAdaptive => 0x1#4 ++ 0x4#4
  | .encSetancOff => 0x1#4 ++ 0x5#4
  | .encSetancTransparency => 0x1#4 ++ 0x7#4
  | .decAnc => 0x2#4 ++ 0x0#4
  | .decFwlen => 0x2#4 ++ 0x1#4
  | .decFwstr => 0x2#4 ++ 0x2#4
  | .decSer => 0x2#4 ++ 0x3#4
  | .chkGen => 0x3#4 ++ 0x0#4
  | .chkVal => 0x3#4 ++ 0x1#4

/-- The bytes of an instruction: one operation word (spec/30_encoding.md R70). -/
def encode (i : Instr) : List Byte := [encodeWord i]

/-- The bytes of an instruction whose bits are `w`, the least significant byte first; at least the one byte an
operation word has, with the bits above `nbits` zero. -/
def tableBytes (nbits w : Nat) : List Byte :=
  (List.range (max 1 (nbits / 8))).map fun k => BitVec.ofNat 8 ((w % 2 ^ nbits) / 2 ^ (8 * k))

/-- The instruction the decoder reads from the instruction bits of a row of opcode_table.json. -/
def decodeTableWord (nbits w : Nat) : Option Instr :=
  match decode (tableBytes nbits w) with
  | .ok (i, _) => some i
  | .error _ => none

end Sys2Proof
end

