-- ==== Sys2Proof/Machine/State.lean ====
section
/-! DEFINITION. The state of the FCB, of the host that drives it and of the channel, as plain data
(spec/10_state.md R20; spec/60_exceptions.md R217 to R229), and the state right after reset (R41). -/

namespace Sys2Proof.Machine

/-- A byte-indexed store (spec/20_memory.md R50): cells (index, byte), indices strictly rising. An index that is
not listed holds NOVALUE (spec/10_state.md R36), so that no byte equals what an unlisted index reads as.
DESIGN CHOICE of representation; safe (notes/assumptions/10.md). -/
abbrev Memory := List Host.Cell

/-- The canonical form of a store: indices strictly rising. -/
abbrev Memory.wf (m : Memory) : Prop := m.Pairwise fun a b => a.1 < b.1

/-- The store holds values at exactly the indices 0 to n - 1 (spec/10_state.md R28, R29). -/
abbrev Memory.filled (m : Memory) (n : Nat) : Prop := m.map Prod.fst = List.range n

/-- AncMode, the closed enumeration (spec/43_lookup_table.md R190). -/
inductive AncMode where
  | high
  | mid
  | low
  | adaptive
  | off
  | transparency
deriving DecidableEq, Repr

/-- The error codes' names (spec/60_exceptions.md R201). -/
inductive ErrCode where
  /-- NONE, 0: every successful operation. -/
  | none
  /-- INVALID_RESPONSE, 1: DEC.ANC (R202). -/
  | invalidResponse
  /-- FRAME_LENGTH, 2: DEC.* and CHK.VAL (R203). -/
  | frameLength
  /-- SEQUENCE, 3: DEC.FWSTR (R204). -/
  | sequence
  /-- ILLEGAL_OP, 4: every reserved word (R205). -/
  | illegalOp
  /-- ENCODING, 5: never raised (R206). -/
  | encoding
  /-- TRANSPORT, 6: a host outcome, never written to STATUS (R207). -/
  | transport
deriving DecidableEq, Repr

/-- What the host may read (spec/10_state.md R39); a buffer is read byte by byte here and whole by TX.READ. -/
inductive HostReg where
  | opr
  | status
  | txlen
  | txbuf (i : Nat)
  | rxlen
  | rxbuf (i : Nat)
  | resMode
  | resFwlen
  | resStrlen
  | resStr
  | resCrc
  | resRsize
deriving DecidableEq, Repr

/-- The exchanges the caller can ask for (spec/60_exceptions.md R223 to R225, R229). -/
inductive Exchange where
  | queryAnc
  | setAnc (m : AncMode)
  | queryDeviceInfo
deriving DecidableEq, Repr

/-- One input: a host action of spec/60_exceptions.md R218, the start of an exchange (R223 to R225), or an event
from outside (reset, R240 of 70; the bring-up's channel, R243 of 70). Each is one atomic step. -/
inductive Input where
  /-- ISSUE(op). -/
  | issue (op : Byte)
  /-- RX.LOAD(s). -/
  | rxLoad (s : List Byte)
  /-- TX.READ. -/
  | txRead
  /-- CH.WRITE(s). -/
  | chWrite (s : List Byte)
  /-- CH.READ(n). -/
  | chRead (n : Nat)
  /-- A read of an FCB register. -/
  | readReg (r : HostReg)
  /-- The caller starts an exchange. -/
  | exchange (e : Exchange)
  /-- Reset, applied between operations (spec/70_reset_and_hazards.md R240). -/
  | reset
  /-- The external bring-up supplies a connected channel (spec/70_reset_and_hazards.md R243). -/
  | channelUp
deriving DecidableEq, Repr

/-- One line of an exchange's pseudocode (spec/60_exceptions.md R223 to R225). -/
inductive ExchangeStep where
  /-- ISSUE(op). -/
  | issue (op : Byte)
  /-- TX.READ, the argument of the line's CH.WRITE. -/
  | txRead
  /-- CH.WRITE of what TX.READ gave; on IoError, fail T. -/
  | chWrite
  /-- r <- CH.READ(RES_RSIZE); on IoError, fail T. -/
  | chRead
  /-- RX.LOAD(r). -/
  | rxLoad
  /-- fw <- lossyText(RES_STR[0..RES_STRLEN]). -/
  | takeFirmware
  /-- sn <- lossyText(RES_STR[0..RES_STRLEN]). -/
  | takeSerial
  /-- The last lines of EXCH.QUERY_ANC: Ok(MODE_OF(RES_MODE)) if VALID, else InvalidResponse. -/
  | returnMode
  /-- return Ok(()). -/
  | returnUnit
  /-- return Ok(DeviceInfo). -/
  | returnInfo
deriving DecidableEq, Repr

/-- The outcome of an exchange (spec/60_exceptions.md R223 to R225, R227, R229). -/
inductive ExchangeResult where
  | okMode (m : AncMode)
  | okUnit
  | okInfo (firmware serial : String)
  | transport
  | invalidResponse
deriving DecidableEq, Repr

/-- The oracle's answer to one CH.WRITE (spec/60_exceptions.md R219). -/
inductive WriteDraw where
  | ok
  | ioError
deriving DecidableEq, Repr

/-- The oracle's answer to one CH.READ (spec/60_exceptions.md R220): the bytes delivered, or IoError. -/
inductive ReadDraw where
  | bytes (s : List Byte)
  | ioError
deriving DecidableEq, Repr

/-- The channel's condition (spec/60_exceptions.md R222; spec/70_reset_and_hazards.md R243). -/
inductive Channel where
  /-- No channel has been supplied: no CH.WRITE or CH.READ is admitted (70 R243). -/
  | absent
  /-- A connected channel. -/
  | connected
  /-- Dead after a transport failure: no further CH.WRITE or CH.READ is admitted (R222). -/
  | dead
deriving DecidableEq, Repr

/-- What a host action returns to the host. -/
inductive HostValue where
  /-- No action has returned anything yet. -/
  | nothing
  /-- The value of a register, or of one buffer byte, as an unsigned number. -/
  | num (n : Nat)
  /-- Bytes: TX.READ, CH.READ, a read of RES_STR. -/
  | bytes (s : List Byte)
  /-- CH.WRITE's Ok. -/
  | ok
  /-- CH.WRITE's or CH.READ's IoError. -/
  | ioError
deriving DecidableEq, Repr

/-- Why the machine stops with a fault. -/
inductive Fault where
  /-- A host read of a register or buffer byte that holds no value. Raised by a host's register read, by TX.READ
  and by the exchange lines that read a register. The spec's own fault (spec/10_state.md R36, 93 U10); safe. -/
  | readNoValue (r : HostReg)
  /-- An operation met NOVALUE in the register or buffer byte its rule reads after its checks. The spec says this
  never happens (spec/10_state.md R36); raised by DEC.* and CHK.* in states no run reaches only; safe
  (notes/assumptions/12.md). -/
  | operandNoValue (r : HostReg)
  /-- The host applied MODE_OF outside its domain (spec/43_lookup_table.md R191, undefined there); raised by the
  last line of EXCH.QUERY_ANC in states no run reaches only; safe (notes/assumptions/13.md). -/
  | modeUndefined (c : BitVec 3)
deriving DecidableEq, Repr

/-- Why the machine refuses. -/
inductive Refusal where
  /-- No meaning for the instruction; no arm of exec answers it. -/
  | notModelled (mnemonic : String)
  /-- RX.LOAD of more than 265 bytes has no step (spec/60_exceptions.md R218, 93 U15). Raised by RX.LOAD; safe. -/
  | rxLoadTooLong (len : Nat)
  /-- CH.WRITE or CH.READ on a dead channel (spec/60_exceptions.md R222, 93 U2). Raised by both; safe. -/
  | channelDead
  /-- CH.WRITE or CH.READ without a channel (spec/70_reset_and_hazards.md R243). Raised by both; safe. -/
  | channelAbsent
  /-- The bring-up supplies a second channel, where the source has one (spec/60_exceptions.md R217). Raised by
  the channelUp input; safe (notes/assumptions/4.md). -/
  | channelAlreadySupplied
deriving DecidableEq, Repr

/-- The state. An Option register at `none` holds NOVALUE, a state the spec itself gives a register
(spec/10_state.md R36, R37, R41; notes/assumptions/1.md). The first twelve fields are the FCB's registers
(R20; the ROM is the constant `romRead`, notes/assumptions/9.md), the rest the host's and the channel's. -/
structure State where
  /-- OPR, the last operation word issued (spec/10_state.md R21). -/
  opr : Byte
  /-- STATUS (spec/10_state.md R22). -/
  status : Byte
  /-- TXBUF (spec/10_state.md R28). -/
  txbuf : Memory
  /-- TXLEN, 0 to 13 (spec/10_state.md R28). -/
  txlen : BitVec 4
  /-- RXBUF (spec/10_state.md R29). -/
  rxbuf : Memory
  /-- RXLEN, 0 to 265 (spec/10_state.md R29). -/
  rxlen : BitVec 9
  /-- RES_MODE (spec/10_state.md R30). -/
  resMode : Option (BitVec 3)
  /-- RES_FWLEN (spec/10_state.md R31). -/
  resFwlen : Option Byte
  /-- RES_STRLEN (spec/10_state.md R32). -/
  resStrlen : Option Byte
  /-- RES_STR, raw bytes (spec/10_state.md R32). -/
  resStr : Option (List Byte)
  /-- RES_CRC (spec/10_state.md R33). -/
  resCrc : Option Half
  /-- RES_RSIZE, 0 to 257 (spec/10_state.md R34). -/
  resRsize : Option (BitVec 9)
  /-- The channel's condition (spec/60_exceptions.md R222). -/
  channel : Channel
  /-- The bytes of all completed CH.WRITEs, in order (spec/60_exceptions.md R219; notes/assumptions/16.md). -/
  sent : List Byte
  /-- The oracle's answers to the coming CH.WRITEs; empty: the environment has not answered
  (notes/assumptions/5.md, 6.md). -/
  writeDraws : List WriteDraw
  /-- The oracle's answers to the coming CH.READs; empty: the environment has not answered
  (notes/assumptions/5.md, 6.md). -/
  readDraws : List ReadDraw
  /-- What the host and the outside do next, the first at the head (notes/assumptions/2.md). -/
  inputs : List Input
  /-- The lines of the current exchange still to run; empty: no exchange is in progress. -/
  script : List ExchangeStep
  /-- What TX.READ gave inside the current exchange. -/
  hostTx : List Byte
  /-- What CH.READ gave inside the current exchange (r, r1, r2, r3 of R223 and R225). -/
  hostRx : List Byte
  /-- The local variable fw of R225. -/
  hostFw : String
  /-- The local variable sn of R225. -/
  hostSn : String
  /-- What the last host action that returns something returned. -/
  ret : HostValue
  /-- The outcome of the last exchange; none before one ends. -/
  result : Option ExchangeResult
deriving DecidableEq, Repr

/-- The machine right after reset. The FCB's registers as spec/10_state.md R41 lists them; the host's and the
channel's fields, which the spec gives no reset value, empty, with no channel supplied yet
(DESIGN CHOICE; unsafe; notes/assumptions/3.md, 4.md). -/
def State.reset : State :=
  { opr := 0x00
    status := 0x00
    txbuf := []
    txlen := 0
    rxbuf := []
    rxlen := 0
    resMode := none
    resFwlen := none
    resStrlen := none
    resStr := none
    resCrc := none
    resRsize := none
    channel := .absent
    sent := []
    writeDraws := []
    readDraws := []
    inputs := []
    script := []
    hostTx := []
    hostRx := []
    hostFw := ""
    hostSn := ""
    ret := .nothing
    result := none }

end Sys2Proof.Machine
end

