-- ==== Sys2Proof/Machine/Operands.lean ====
section
/-! DEFINITION. The implicit operands of the operations (spec/30_encoding.md R71) and the values computed from
them: the AncMode codes (spec/43_lookup_table.md R190 to R192), the response sizes (R194), the checksum
(spec/42_checksum.md R160), the assembled frame (spec/40_encoder.md R101). -/

namespace Sys2Proof.Machine

/-- MODE_OF, the partial inbound decode: a value exactly on 1, 2, 3, 4, 5 and 7 (spec/43_lookup_table.md R191). -/
def modeOf (c : Byte) : Option AncMode :=
  match c.toNat with
  | 1 => some .high
  | 2 => some .mid
  | 3 => some .low
  | 4 => some .adaptive
  | 5 => some .off
  | 7 => some .transparency
  | _ => none

/-- CODE_OF, the inbound code of a mode (spec/43_lookup_table.md R190, R191). -/
def codeOf : AncMode → Byte
  | .high => 1
  | .mid => 2
  | .low => 3
  | .adaptive => 4
  | .off => 5
  | .transparency => 7

/-- The operation word that sets a mode, 0x10 | CODE_OF(m) (spec/30_encoding.md R72; spec/43_lookup_table.md R192). -/
def setAncWord (m : AncMode) : Byte := 0x10#8 ||| codeOf m

/-- The size of an ANC status response (spec/00_scope.md R7; spec/41_decoder.md R131). -/
def ancStatusSize : Nat := 16

/-- The size of a firmware stage-1 response (spec/00_scope.md R7; spec/41_decoder.md R132). -/
def fwStage1Size : Nat := 8

/-- The size of a firmware stage-2 response of string length n, without wrap (spec/00_scope.md R10;
spec/41_decoder.md R133). -/
def fwStage2Size (n : Byte) : Nat := n.toNat + 2

/-- The size of a serial response (spec/00_scope.md R7; spec/41_decoder.md R134). -/
def serialSize : Nat := 47

/-- The offset of the status code (spec/20_memory.md R59; spec/41_decoder.md R131). -/
def ancCodeOffset : Nat := 9

/-- The offset of the firmware length (spec/20_memory.md R59; spec/41_decoder.md R132). -/
def fwLengthOffset : Nat := 5

/-- The first offset of the serial string (spec/20_memory.md R59; spec/41_decoder.md R134). -/
def serialOffset : Nat := 31

/-- The length of the serial string, bytes 31 to 46 (spec/41_decoder.md R134, 92 D21). -/
def serialLength : Nat := 16

/-- One of the eight rounds of the checksum (spec/42_checksum.md R160). -/
def crcShift (c : Half) : Half :=
  if c.getLsbD 0 then (c >>> 1) ^^^ 0xA001#16 else c >>> 1

/-- `k` rounds (spec/42_checksum.md R160). -/
def crcShifts : Nat → Half → Half
  | 0, c => c
  | k + 1, c => crcShifts k (crcShift c)

/-- The checksum register after one more byte (spec/42_checksum.md R160). -/
def crcByte (c : Half) (b : Byte) : Half := crcShifts 8 (c ^^^ b.setWidth 16)

/-- crc16 of a byte sequence of any length (spec/42_checksum.md R160). -/
def crc16 (s : List Byte) : Half := s.foldl crcByte 0xFFFF#16

/-- The two wire bytes of a 16-bit value, low byte first (spec/00_scope.md R10; spec/20_memory.md R54). -/
def lowFirst (v : Half) : List Byte := [v.extractLsb' 0 8, v.extractLsb' 8 8]

/-- The 16-bit value of two wire bytes (spec/20_memory.md R56). -/
def fromLowFirst (lo hi : Byte) : Half := lo.setWidth 16 ||| (hi.setWidth 16 <<< 8)

/-- ASSEMBLE, the equivalent way to a frame (spec/40_encoder.md R101). -/
def assemble (cls : Half) (opc : Byte) (payload : List Byte) : List Byte :=
  let f := [0x55#8, 0x60#8, 0x01#8] ++ lowFirst cls ++ [BitVec.ofNat 8 payload.length, 0x00#8, opc] ++ payload
  f ++ lowFirst (crc16 f)

end Sys2Proof.Machine
end

