-- ==== Sys2Proof/Machine/Flags.lean ====
section
/-! DEFINITION. STATUS and its fields (spec/10_state.md R22 to R27), the error codes' numbers
(spec/60_exceptions.md R201), and how each operation leaves the firmware-length latch (R26). -/

namespace Sys2Proof.Machine

/-- The number of an error code (spec/60_exceptions.md R201). -/
def ErrCode.code : ErrCode → BitVec 4
  | .none => 0
  | .invalidResponse => 1
  | .frameLength => 2
  | .sequence => 3
  | .illegalOp => 4
  | .encoding => 5
  | .transport => 6

/-- STATUS from its fields: bit 7 hardwired 0, FWLEN_VALID, CRC_OK, VALID, ERR (spec/10_state.md R22, R27). -/
def statusWord (e : ErrCode) (valid crcOk fwlenValid : Bool) : Byte :=
  0#1 ++ BitVec.ofBool fwlenValid ++ BitVec.ofBool crcOk ++ BitVec.ofBool valid ++ e.code

/-- STATUS.ERR, bits 3:0 (spec/10_state.md R22, R23). -/
def statusErr (w : Byte) : BitVec 4 := w.extractLsb' 0 4

/-- STATUS.VALID, bit 4 (spec/10_state.md R22, R24). -/
def statusValid (w : Byte) : Bool := w.getLsbD 4

/-- STATUS.CRC_OK, bit 5 (spec/10_state.md R22, R25). -/
def statusCrcOk (w : Byte) : Bool := w.getLsbD 5

/-- STATUS.FWLEN_VALID, bit 6 (spec/10_state.md R22, R26). -/
def statusFwlenValid (w : Byte) : Bool := w.getLsbD 6

/-- STATUS as the host reads it: bit 7 is hardwired to 0 (spec/10_state.md R22, R27). -/
def statusRead (w : Byte) : Byte := w &&& 0x7F#8

/-- What an operation does to FWLEN_VALID where its rule does not set it (spec/10_state.md R26). -/
inductive Latch where
  /-- ENC.*, DEC.*: cleared, whether the operation succeeds or fails; DEC.FWLEN's success alone sets it. -/
  | clear
  /-- CHK.* and reserved words: left unchanged. -/
  | keep
  /-- A successful DEC.FWLEN: set. -/
  | set
deriving DecidableEq, Repr

/-- FWLEN_VALID after the operation, from what it was before (spec/10_state.md R26). -/
def Latch.apply : Latch → Bool → Bool
  | .clear, _ => false
  | .keep, b => b
  | .set, _ => true

end Sys2Proof.Machine
end

