-- ==== Sys2Proof/Machine/Rom.lean ====
section
/-! DEFINITION. The command lookup table, a constant of nine rows (spec/43_lookup_table.md R180 to R189;
spec/70_reset_and_hazards.md R242; notes/assumptions/9.md). -/

namespace Sys2Proof.Machine

/-- CMD, the command a row stands for (spec/43_lookup_table.md R180). -/
inductive Command where
  | queryAnc
  | setAnc (m : AncMode)
  | queryFirmware
  | querySerial
deriving DecidableEq, Repr

/-- One row of the table, its fields as spec/43_lookup_table.md R180 lists them. -/
structure RomRow where
  /-- CMD. -/
  cmd : Command
  /-- The operation word that reads the row (spec/30_encoding.md R74). -/
  word : Byte
  /-- CLASS. -/
  cls : Half
  /-- OPC. -/
  opc : Byte
  /-- PLEN. -/
  plen : Byte
  /-- PAYLOAD. -/
  payload : List Byte
  /-- FLEN, a length, so a natural number (spec/00_scope.md R10). -/
  flen : Nat
  /-- FRAME. -/
  frame : List Byte
  /-- RSIZE. -/
  rsize : BitVec 9
deriving DecidableEq, Repr

/-- RomRead(row): there is no row but 0 to 8 (spec/20_memory.md R51; spec/43_lookup_table.md R181 to R189). -/
def romRead : Fin 9 → RomRow
  | 0 =>
    { cmd := .queryAnc, word := 0x01, cls := 0xC01E, opc := 0x0C, plen := 1, payload := [0x03], flen := 11
      frame := [0x55, 0x60, 0x01, 0x1e, 0xc0, 0x01, 0x00, 0x0c, 0x03, 0x98, 0x19], rsize := 16 }
  | 1 =>
    { cmd := .setAnc .high, word := 0x11, cls := 0xF00F, opc := 0xED, plen := 3, payload := [0x01, 0x01, 0x00]
      flen := 13
      frame := [0x55, 0x60, 0x01, 0x0f, 0xf0, 0x03, 0x00, 0xed, 0x01, 0x01, 0x00, 0xcd, 0x47], rsize := 0 }
  | 2 =>
    { cmd := .setAnc .mid, word := 0x12, cls := 0xF00F, opc := 0x56, plen := 3, payload := [0x01, 0x02, 0x00]
      flen := 13
      frame := [0x55, 0x60, 0x01, 0x0f, 0xf0, 0x03, 0x00, 0x56, 0x01, 0x02, 0x00, 0xe9, 0x53], rsize := 0 }
  | 3 =>
    { cmd := .setAnc .low, word := 0x13, cls := 0xF00F, opc := 0x67, plen := 3, payload := [0x01, 0x03, 0x00]
      flen := 13
      frame := [0x55, 0x60, 0x01, 0x0f, 0xf0, 0x03, 0x00, 0x67, 0x01, 0x03, 0x00, 0xe6, 0x3f], rsize := 0 }
  | 4 =>
    { cmd := .setAnc .adaptive, word := 0x14, cls := 0xF00F, opc := 0x76, plen := 3, payload := [0x01, 0x04, 0x00]
      flen := 13
      frame := [0x55, 0x60, 0x01, 0x0f, 0xf0, 0x03, 0x00, 0x76, 0x01, 0x04, 0x00, 0xe1, 0x33], rsize := 0 }
  | 5 =>
    { cmd := .setAnc .off, word := 0x15, cls := 0xF00F, opc := 0x04, plen := 3, payload := [0x01, 0x05, 0x00]
      flen := 13
      frame := [0x55, 0x60, 0x01, 0x0f, 0xf0, 0x03, 0x00, 0x04, 0x01, 0x05, 0x00, 0xfb, 0xdb], rsize := 0 }
  | 6 =>
    { cmd := .setAnc .transparency, word := 0x17, cls := 0xF00F, opc := 0x61, plen := 3
      payload := [0x01, 0x07, 0x00], flen := 13
      frame := [0x55, 0x60, 0x01, 0x0f, 0xf0, 0x03, 0x00, 0x61, 0x01, 0x07, 0x00, 0xe4, 0x77], rsize := 0 }
  | 7 =>
    { cmd := .queryFirmware, word := 0x02, cls := 0xC042, opc := 0x03, plen := 0, payload := [], flen := 10
      frame := [0x55, 0x60, 0x01, 0x42, 0xc0, 0x00, 0x00, 0x03, 0xe0, 0xd1], rsize := 8 }
  | 8 =>
    { cmd := .querySerial, word := 0x03, cls := 0xC006, opc := 0x05, plen := 0, payload := [], flen := 10
      frame := [0x55, 0x60, 0x01, 0x06, 0xc0, 0x00, 0x00, 0x05, 0x90, 0xdc], rsize := 47 }

/-- ROW_OF, the row of a mode's set-ANC frame (spec/43_lookup_table.md R190, R192). -/
def rowOf : AncMode → Fin 9
  | .high => 1
  | .mid => 2
  | .low => 3
  | .adaptive => 4
  | .off => 5
  | .transparency => 6

end Sys2Proof.Machine
end

