-- ==== Sys2Proof/Machine/Ops.lean ====
section
/-! DEFINITION. The named operations over the stores and registers: reading and filling a store, the start of an
operation (spec/10_state.md R21, R37), its successful end, the error entry (spec/60_exceptions.md R209), the
host's loads and reads (R218, R39), and reset (spec/70_reset_and_hazards.md R240). -/

namespace Sys2Proof.Machine

/-- The byte at an index, or NOVALUE (spec/10_state.md R36). -/
def Memory.read (m : Memory) (i : Nat) : Option Byte := m.lookup i

/-- The cells of a byte sequence placed from index `k` upward. -/
def cellsFrom : Nat → List Byte → Memory
  | _, [] => []
  | k, b :: t => (k, b) :: cellsFrom (k + 1) t

/-- The store that holds a byte sequence from index 0 and NOVALUE at every other index: what a whole-sequence
write leaves (spec/20_memory.md R52, R53). -/
def Memory.ofBytes (s : List Byte) : Memory := cellsFrom 0 s

/-- STATUS.FWLEN_VALID. -/
def State.fwlenValid (s : State) : Bool := statusFwlenValid s.status

/-- RxByte(i): RXBUF[i], a value for i < RXLEN only (spec/00_scope.md R11; spec/10_state.md R29). -/
def State.rxByte (s : State) (i : Nat) : Option Byte :=
  if i < s.rxlen.toNat then s.rxbuf.read i else none

/-- TXBUF[i], a value for i < TXLEN only (spec/10_state.md R28). -/
def State.txByte (s : State) (i : Nat) : Option Byte :=
  if i < s.txlen.toNat then s.txbuf.read i else none

/-- All of a list of optional bytes, or NOVALUE if one of them is. -/
def allValues : List (Option Byte) → Option (List Byte)
  | [] => some []
  | none :: _ => none
  | some b :: t =>
    match allValues t with
    | some s => some (b :: s)
    | none => none

/-- RXBUF[a..a+n], the half-open slice (spec/00_scope.md R9); NOVALUE if a byte of it is. -/
def State.rxSlice (s : State) (a n : Nat) : Option (List Byte) :=
  allValues ((List.range' a n).map s.rxByte)

/-- What TX.READ returns, TXBUF[0..TXLEN] (spec/10_state.md R28; spec/60_exceptions.md R218). -/
def State.txSlice (s : State) : Option (List Byte) :=
  allValues ((List.range' 0 s.txlen.toNat).map s.txByte)

/-- The start of every operation: OPR takes the word (spec/10_state.md R21), and the result registers but
RES_FWLEN lose their values (R37). -/
def State.beginOp (op : Byte) (s : State) : State :=
  { s with opr := op, resMode := none, resStr := none, resStrlen := none, resCrc := none, resRsize := none }

/-- Every operation writes all of STATUS (spec/10_state.md R22 to R27). -/
def State.setStatus (e : ErrCode) (valid crcOk : Bool) (latch : Latch) (s : State) : State :=
  { s with status := statusWord e valid crcOk (latch.apply s.fwlenValid) }

/-- The flags of a successful operation: ERR 0, VALID 1 (spec/10_state.md R23, R24). -/
def State.succeed (crcOk : Bool) (latch : Latch) (s : State) : State :=
  s.setStatus .none true crcOk latch

/-- raise Error(k), the error entry, after `beginOp`: ERR k, VALID 0, CRC_OK 0, FWLEN_VALID as R26 says for the
operation; nothing else (spec/60_exceptions.md R209). There is no return from an error (R211). -/
def State.raise (k : ErrCode) (latch : Latch) (s : State) : State :=
  s.setStatus k false false latch

/-- RXBUF[0..len(s)] <- s, RXLEN <- len(s), every later byte NOVALUE, for len(s) <= 265 (spec/10_state.md R29). -/
def State.loadRx (bytes : List Byte) (s : State) : State :=
  { s with rxbuf := Memory.ofBytes bytes, rxlen := BitVec.ofNat 9 bytes.length }

/-- TXBUF[0..FLEN] <- FRAME and NOVALUE at the other of the 13 indices, TXLEN <- FLEN: the two loops of
spec/40_encoder.md R100, which between them write every byte of TXBUF. -/
def State.writeFrame (row : RomRow) (s : State) : State :=
  { s with txbuf := Memory.ofBytes (row.frame.take row.flen), txlen := BitVec.ofNat 4 row.flen }

/-- What the host reads from an FCB register or buffer byte; none is NOVALUE (spec/10_state.md R36, R39). -/
def State.hostRead (r : HostReg) (s : State) : Option HostValue :=
  match r with
  | .opr => some (.num s.opr.toNat)
  | .status => some (.num (statusRead s.status).toNat)
  | .txlen => some (.num s.txlen.toNat)
  | .txbuf i => (s.txByte i).map fun b => .num b.toNat
  | .rxlen => some (.num s.rxlen.toNat)
  | .rxbuf i => (s.rxByte i).map fun b => .num b.toNat
  | .resMode => s.resMode.map fun v => .num v.toNat
  | .resFwlen => s.resFwlen.map fun v => .num v.toNat
  | .resStrlen => s.resStrlen.map fun v => .num v.toNat
  | .resStr => s.resStr.map .bytes
  | .resCrc => s.resCrc.map fun v => .num v.toNat
  | .resRsize => s.resRsize.map fun v => .num v.toNat

/-- Reset of the FCB: its registers as spec/10_state.md R41, the channel and the host untouched
(spec/70_reset_and_hazards.md R240, R241). -/
def State.resetFcb (s : State) : State :=
  { s with
    opr := 0x00, status := 0x00, txbuf := [], txlen := 0, rxbuf := [], rxlen := 0
    resMode := none, resFwlen := none, resStrlen := none, resStr := none, resCrc := none, resRsize := none }

end Sys2Proof.Machine
end

