-- ==== Sys2Proof/Machine/Channel.lean ====
section
/-! DEFINITION. The channel (spec/60_exceptions.md R219 to R222): a write is all or fail, a read fills or fails,
the answers are the oracle's draws (notes/assumptions/5.md), a failure kills the channel, and an answer that never
comes is a hang that no step ends (R228; notes/assumptions/6.md). -/

namespace Sys2Proof.Machine

/-- How one channel action ends. -/
inductive ChannelOutcome where
  /-- The model admits no such action on this channel (spec/60_exceptions.md R222; spec/70_reset_and_hazards.md R243). -/
  | refused (r : Refusal)
  /-- The environment has not answered: nothing happens (spec/60_exceptions.md R228). -/
  | waiting
  /-- IoError; the channel is dead in the state given (spec/60_exceptions.md R222). -/
  | failed (s : State)
  /-- Done; the bytes read (none for a write). -/
  | done (bytes : List Byte) (s : State)
deriving DecidableEq, Repr

/-- CH.WRITE(bytes) (spec/60_exceptions.md R219). -/
def State.channelWrite (bytes : List Byte) (s : State) : ChannelOutcome :=
  match s.channel with
  | .absent => .refused .channelAbsent
  | .dead => .refused .channelDead
  | .connected =>
    match s.writeDraws with
    | [] => .waiting
    | .ok :: rest => .done [] { s with sent := s.sent ++ bytes, writeDraws := rest }
    | .ioError :: rest => .failed { s with channel := .dead, writeDraws := rest }

/-- CH.READ(n): exactly n bytes or IoError; a draw that is not exactly n bytes is IoError
(spec/60_exceptions.md R220; notes/assumptions/5.md). -/
def State.channelRead (n : Nat) (s : State) : ChannelOutcome :=
  match s.channel with
  | .absent => .refused .channelAbsent
  | .dead => .refused .channelDead
  | .connected =>
    match s.readDraws with
    | [] => .waiting
    | .ioError :: rest => .failed { s with channel := .dead, readDraws := rest }
    | .bytes b :: rest =>
      if b.length = n then .done b { s with readDraws := rest }
      else .failed { s with channel := .dead, readDraws := rest }

end Sys2Proof.Machine
end

