-- ==== Sys2Proof/Machine/Checksum.lean ====
section
/-! DEFINITION. The CHK family (spec/42_checksum.md R164, R165). CRC_OK is advisory: no operation reads it (R166). -/

namespace Sys2Proof.Machine

/-- The pseudocode of CHK.GEN (spec/42_checksum.md R164): the checksum of all loaded bytes, of none if RXLEN = 0. -/
def checksumGen (s : State) : Host.Outcome State Fault Refusal :=
  match s.rxSlice 0 s.rxlen.toNat with
  | none => .fault (.operandNoValue (.rxbuf 0))
  | some bytes => .next ({ s with resCrc := some (crc16 bytes) }.succeed false .keep)

/-- CHK.GEN (spec/42_checksum.md R164). -/
def execChkGen (s : State) : Host.Outcome State Fault Refusal :=
  checksumGen (s.beginOp (encodeWord .chkGen))

/-- The pseudocode of CHK.VAL (spec/42_checksum.md R165): a mismatch is a success with CRC_OK = 0. -/
def checksumVal (s : State) : Host.Outcome State Fault Refusal :=
  if 2 ≤ s.rxlen.toNat then
    match s.rxSlice 0 (s.rxlen.toNat - 2), s.rxByte (s.rxlen.toNat - 2), s.rxByte (s.rxlen.toNat - 1) with
    | some body, some lo, some hi =>
      .next ({ s with resCrc := some (crc16 body) }.succeed (crc16 body == fromLowFirst lo hi) .keep)
    | _, _, _ => .fault (.operandNoValue (.rxbuf 0))
  else .next (s.raise .frameLength .keep)

/-- CHK.VAL (spec/42_checksum.md R165). -/
def execChkVal (s : State) : Host.Outcome State Fault Refusal :=
  checksumVal (s.beginOp (encodeWord .chkVal))

end Sys2Proof.Machine
end

