-- ==== Sys2Proof/Machine/Decoder.lean ====
section
/-! DEFINITION. The DEC family (spec/41_decoder.md): fixed-offset field extractions from RXBUF. Each meaning is
its rule's pseudocode run on the state after the start of the operation (spec/10_state.md R21, R37). -/

namespace Sys2Proof.Machine

/-- The pseudocode of DEC.ANC (spec/41_decoder.md R131). -/
def decodeAnc (s : State) : Host.Outcome State Fault Refusal :=
  if s.rxlen.toNat = ancStatusSize then
    match s.rxByte ancCodeOffset with
    | none => .fault (.operandNoValue (.rxbuf ancCodeOffset))
    | some c =>
      match modeOf c with
      | none => .next (s.raise .invalidResponse .clear)
      | some _ => .next ({ s with resMode := some (c.extractLsb' 0 3) }.succeed false .clear)
  else .next (s.raise .frameLength .clear)

/-- DEC.ANC (spec/41_decoder.md R131). -/
def execDecAnc (s : State) : Host.Outcome State Fault Refusal :=
  decodeAnc (s.beginOp (encodeWord .decAnc))

/-- The pseudocode of DEC.FWLEN (spec/41_decoder.md R132): byte 5 alone, and n + 2 in nine bits does not wrap. -/
def decodeFwlen (s : State) : Host.Outcome State Fault Refusal :=
  if s.rxlen.toNat = fwStage1Size then
    match s.rxByte fwLengthOffset with
    | none => .fault (.operandNoValue (.rxbuf fwLengthOffset))
    | some n =>
      .next ({ s with resFwlen := some n, resRsize := some (BitVec.ofNat 9 (fwStage2Size n)) }.succeed false .set)
  else .next (s.raise .frameLength .clear)

/-- DEC.FWLEN (spec/41_decoder.md R132). -/
def execDecFwlen (s : State) : Host.Outcome State Fault Refusal :=
  decodeFwlen (s.beginOp (encodeWord .decFwlen))

/-- The pseudocode of DEC.FWSTR (spec/41_decoder.md R133): the latch is checked before the length
(spec/60_exceptions.md R208) and consumed in every outcome. -/
def decodeFwstr (s : State) : Host.Outcome State Fault Refusal :=
  if s.fwlenValid = true then
    match s.resFwlen with
    | none => .fault (.operandNoValue .resFwlen)
    | some n =>
      if s.rxlen.toNat = fwStage2Size n then
        match s.rxSlice 0 n.toNat with
        | none => .fault (.operandNoValue (.rxbuf 0))
        | some str => .next ({ s with resStr := some str, resStrlen := some n }.succeed false .clear)
      else .next (s.raise .frameLength .clear)
  else .next (s.raise .sequence .clear)

/-- DEC.FWSTR (spec/41_decoder.md R133). -/
def execDecFwstr (s : State) : Host.Outcome State Fault Refusal :=
  decodeFwstr (s.beginOp (encodeWord .decFwstr))

/-- The pseudocode of DEC.SER (spec/41_decoder.md R134): bytes 31 to 46, raw. -/
def decodeSer (s : State) : Host.Outcome State Fault Refusal :=
  if s.rxlen.toNat = serialSize then
    match s.rxSlice serialOffset serialLength with
    | none => .fault (.operandNoValue (.rxbuf serialOffset))
    | some str =>
      .next ({ s with resStr := some str, resStrlen := some (BitVec.ofNat 8 serialLength) }.succeed false .clear)
  else .next (s.raise .frameLength .clear)

/-- DEC.SER (spec/41_decoder.md R134). -/
def execDecSer (s : State) : Host.Outcome State Fault Refusal :=
  decodeSer (s.beginOp (encodeWord .decSer))

end Sys2Proof.Machine
end

