-- ==== Sys2Proof/Machine/Encoder.lean ====
section
/-! DEFINITION. The ENC family (spec/40_encoder.md): each operation is ENC_COMMON of its ROM row (R100). -/

namespace Sys2Proof.Machine

/-- ENC_COMMON(row) for the operation of word `op` (spec/40_encoder.md R100). It reads nothing but the ROM. -/
def encCommon (op : Byte) (row : Fin 9) (s : State) : State :=
  { (s.beginOp op).writeFrame (romRead row) with resRsize := some (romRead row).rsize }.succeed false .clear

/-- ENC.QANC (spec/40_encoder.md R102). -/
def execEncQanc (s : State) : Host.Outcome State Fault Refusal :=
  .next (encCommon (encodeWord .encQanc) 0 s)

/-- ENC.QFW (spec/40_encoder.md R109). -/
def execEncQfw (s : State) : Host.Outcome State Fault Refusal :=
  .next (encCommon (encodeWord .encQfw) 7 s)

/-- ENC.QSER (spec/40_encoder.md R110). -/
def execEncQser (s : State) : Host.Outcome State Fault Refusal :=
  .next (encCommon (encodeWord .encQser) 8 s)

/-- ENC.SETANC.HIGH (spec/40_encoder.md R103). -/
def execEncSetancHigh (s : State) : Host.Outcome State Fault Refusal :=
  .next (encCommon (encodeWord .encSetancHigh) 1 s)

/-- ENC.SETANC.MID (spec/40_encoder.md R104). -/
def execEncSetancMid (s : State) : Host.Outcome State Fault Refusal :=
  .next (encCommon (encodeWord .encSetancMid) 2 s)

/-- ENC.SETANC.LOW (spec/40_encoder.md R105). -/
def execEncSetancLow (s : State) : Host.Outcome State Fault Refusal :=
  .next (encCommon (encodeWord .encSetancLow) 3 s)

/-- ENC.SETANC.ADAPTIVE (spec/40_encoder.md R106). -/
def execEncSetancAdaptive (s : State) : Host.Outcome State Fault Refusal :=
  .next (encCommon (encodeWord .encSetancAdaptive) 4 s)

/-- ENC.SETANC.OFF (spec/40_encoder.md R107). -/
def execEncSetancOff (s : State) : Host.Outcome State Fault Refusal :=
  .next (encCommon (encodeWord .encSetancOff) 5 s)

/-- ENC.SETANC.TRANSPARENCY (spec/40_encoder.md R108). -/
def execEncSetancTransparency (s : State) : Host.Outcome State Fault Refusal :=
  .next (encCommon (encodeWord .encSetancTransparency) 6 s)

end Sys2Proof.Machine
end

