-- ==== Sys2Proof/Machine/Dispatch.lean ====
section
/-! DEFINITION. One arm per operation, each one call of its meaning. -/

namespace Sys2Proof.Machine

def exec (i : Instr) (s : State) : Host.Outcome State Fault Refusal :=
  match i with
  | .encQanc => Sys2Proof.Machine.execEncQanc s
  | .encQfw => Sys2Proof.Machine.execEncQfw s
  | .encQser => Sys2Proof.Machine.execEncQser s
  | .encSetancHigh => Sys2Proof.Machine.execEncSetancHigh s
  | .encSetancMid => Sys2Proof.Machine.execEncSetancMid s
  | .encSetancLow => Sys2Proof.Machine.execEncSetancLow s
  | .encSetancAdaptive => Sys2Proof.Machine.execEncSetancAdaptive s
  | .encSetancOff => Sys2Proof.Machine.execEncSetancOff s
  | .encSetancTransparency => Sys2Proof.Machine.execEncSetancTransparency s
  | .decAnc => Sys2Proof.Machine.execDecAnc s
  | .decFwlen => Sys2Proof.Machine.execDecFwlen s
  | .decFwstr => Sys2Proof.Machine.execDecFwstr s
  | .decSer => Sys2Proof.Machine.execDecSer s
  | .chkGen => Sys2Proof.Machine.execChkGen s
  | .chkVal => Sys2Proof.Machine.execChkVal s

end Sys2Proof.Machine
end

