-- ==== Sys2Proof/Machine/Issue.lean ====
section
/-! DEFINITION. ISSUE(op): decode the word, run the operation, or raise ILLEGAL_OP for a reserved word
(spec/60_exceptions.md R218, R205). -/

namespace Sys2Proof.Machine

/-- ILLEGAL_OP for the reserved word `op`: no ROM row and no buffer byte is read, the latch is kept
(spec/60_exceptions.md R205, R209; spec/30_encoding.md R75). -/
def illegalOp (op : Byte) (s : State) : State :=
  (s.beginOp op).raise .illegalOp .keep

/-- ISSUE(op) (spec/60_exceptions.md R218). -/
def issueWord (op : Byte) (s : State) : Host.Outcome State Fault Refusal :=
  match decode [op] with
  | .ok (i, _) => exec i s
  | .error _ => .next (illegalOp op s)

end Sys2Proof.Machine
end

