-- ==== Sys2Proof/Machine/HostActions.lean ====
section
/-! DEFINITION. The host's actions outside an exchange (spec/60_exceptions.md R218), reset and the bring-up's
channel (spec/70_reset_and_hazards.md R240, R243). -/

namespace Sys2Proof.Machine

/-- RX.LOAD(bytes): a sequence of more than 265 bytes has no step (spec/60_exceptions.md R218). -/
def rxLoad (bytes : List Byte) (s : State) : Host.Outcome State Fault Refusal :=
  if bytes.length ≤ Config.rxCap then .next (s.loadRx bytes) else .refused (.rxLoadTooLong bytes.length)

/-- TX.READ returns TXBUF[0..TXLEN]; with TXLEN = 0 the empty sequence (spec/60_exceptions.md R218). -/
def txRead (s : State) : Host.Outcome State Fault Refusal :=
  match s.txSlice with
  | some bytes => .next { s with ret := .bytes bytes }
  | none => .fault (.readNoValue (.txbuf 0))

/-- A host read of a register; NOVALUE is a fault (spec/10_state.md R36, R39). -/
def readReg (r : HostReg) (s : State) : Host.Outcome State Fault Refusal :=
  match s.hostRead r with
  | some v => .next { s with ret := v }
  | none => .fault (.readNoValue r)

/-- CH.WRITE outside an exchange; `before` is the state an unanswered write leaves (spec/60_exceptions.md R219). -/
def chWrite (bytes : List Byte) (before s : State) : Host.Outcome State Fault Refusal :=
  match s.channelWrite bytes with
  | .refused r => .refused r
  | .waiting => .next before
  | .failed t => .next { t with ret := .ioError }
  | .done _ t => .next { t with ret := .ok }

/-- CH.READ outside an exchange; `before` is the state an unanswered read leaves (spec/60_exceptions.md R220). -/
def chRead (n : Nat) (before s : State) : Host.Outcome State Fault Refusal :=
  match s.channelRead n with
  | .refused r => .refused r
  | .waiting => .next before
  | .failed t => .next { t with ret := .ioError }
  | .done bytes t => .next { t with ret := .bytes bytes }

/-- The bring-up supplies the one channel (spec/70_reset_and_hazards.md R243; notes/assumptions/4.md). -/
def supplyChannel (s : State) : Host.Outcome State Fault Refusal :=
  match s.channel with
  | .absent => .next { s with channel := .connected }
  | .connected => .refused .channelAlreadySupplied
  | .dead => .refused .channelAlreadySupplied

end Sys2Proof.Machine
end

