-- ==== Sys2Proof/Machine/Exchanges.lean ====
section
/-! DEFINITION. The exchanges (spec/60_exceptions.md R222 to R229): each one's pseudocode as a list of lines, one
line a step, nothing interleaved (R226). -/

namespace Sys2Proof.Machine

/-- The lines of an exchange (spec/60_exceptions.md R223, R224, R225). -/
def Exchange.lines : Exchange → List ExchangeStep
  | .queryAnc => [.issue 0x01, .txRead, .chWrite, .chRead, .rxLoad, .issue 0x20, .returnMode]
  | .setAnc m => [.issue (setAncWord m), .txRead, .chWrite, .returnUnit]
  | .queryDeviceInfo =>
    [.issue 0x02, .txRead, .chWrite, .chRead, .rxLoad, .issue 0x21, .chRead, .rxLoad, .issue 0x22, .takeFirmware,
      .issue 0x03, .txRead, .chWrite, .chRead, .rxLoad, .issue 0x23, .takeSerial, .returnInfo]

/-- The exchange ends with an outcome, by its `return` or its `fail T` (spec/60_exceptions.md R229). -/
def State.endExchange (r : ExchangeResult) (s : State) : State :=
  { s with script := [], result := some r }

/-- The caller starts an exchange; no outcome stands while it runs (notes/assumptions/23.md). -/
def State.startExchange (e : Exchange) (s : State) : State :=
  { s with script := e.lines, result := none }

/-- lossyText(RES_STR[0..RES_STRLEN]), the host's text step (spec/41_decoder.md R135), or the NOVALUE register
its reads meet (spec/10_state.md R36). -/
def State.resultText (s : State) : Except HostReg String :=
  match s.resStr, s.resStrlen with
  | none, _ => .error .resStr
  | some _, none => .error .resStrlen
  | some str, some n => .ok (Config.lossyText (str.take n.toNat))

/-- The last lines of EXCH.QUERY_ANC (spec/60_exceptions.md R223). -/
def returnMode (s : State) : Host.Outcome State Fault Refusal :=
  if statusValid s.status then
    match s.resMode with
    | none => .fault (.readNoValue .resMode)
    | some c =>
      match modeOf (c.setWidth 8) with
      | some m => .next (s.endExchange (.okMode m))
      | none => .fault (.modeUndefined c)
  else .next (s.endExchange .invalidResponse)

/-- One line of the current exchange. `before` is the state before the step, which a hang leaves as it is; `s` is
it with the line taken off the script (spec/60_exceptions.md R222 to R226). -/
def exchangeStep (x : ExchangeStep) (before s : State) : Host.Outcome State Fault Refusal :=
  match x with
  | .issue op => issueWord op s
  | .txRead =>
    match s.txSlice with
    | some bytes => .next { s with hostTx := bytes }
    | none => .fault (.readNoValue (.txbuf 0))
  | .chWrite =>
    match s.channelWrite s.hostTx with
    | .refused r => .refused r
    | .waiting => .next before
    | .failed t => .next (t.endExchange .transport)
    | .done _ t => .next t
  | .chRead =>
    match s.resRsize with
    | none => .fault (.readNoValue .resRsize)
    | some n =>
      match s.channelRead n.toNat with
      | .refused r => .refused r
      | .waiting => .next before
      | .failed t => .next (t.endExchange .transport)
      | .done bytes t => .next { t with hostRx := bytes }
  | .rxLoad => rxLoad s.hostRx s
  | .takeFirmware =>
    match s.resultText with
    | .ok text => .next { s with hostFw := text }
    | .error r => .fault (.readNoValue r)
  | .takeSerial =>
    match s.resultText with
    | .ok text => .next { s with hostSn := text }
    | .error r => .fault (.readNoValue r)
  | .returnMode => returnMode s
  | .returnUnit => .next (s.endExchange .okUnit)
  | .returnInfo => .next (s.endExchange (.okInfo s.hostFw s.hostSn))

/-- One input, outside an exchange. `before` is the state before the step, which a hang leaves as it is; `s` is it
with the input taken off. -/
def inputStep (a : Input) (before s : State) : Host.Outcome State Fault Refusal :=
  match a with
  | .issue op => issueWord op s
  | .rxLoad bytes => rxLoad bytes s
  | .txRead => txRead s
  | .chWrite bytes => chWrite bytes before s
  | .chRead n => chRead n before s
  | .readReg r => readReg r s
  | .exchange e => .next (s.startExchange e)
  | .reset => .next s.resetFcb
  | .channelUp => supplyChannel s

/-- One step of the whole machine: the next line of the current exchange, else the next input, else the FCB is
idle (spec/60_exceptions.md R217, R226; spec/70_reset_and_hazards.md R241; notes/assumptions/7.md). -/
def machineStep (s : State) : Host.Outcome State Fault Refusal :=
  match s.script with
  | x :: rest => exchangeStep x s { s with script := rest }
  | [] =>
    match s.inputs with
    | a :: rest => inputStep a s { s with inputs := rest }
    | [] => .next s

end Sys2Proof.Machine
end

