-- ==== Sys2Proof/Machine/Step.lean ====
section
/-! DEFINITION. The step, and where an operation word is put so that the next step issues it
(notes/assumptions/2.md). -/

namespace Sys2Proof.Machine

/-- One step: the host's next action, or the next line of its current exchange. -/
def step (s : State) : Host.Outcome State Fault Refusal := machineStep s

/-- The operation word `w` as the host's next action: no exchange is in progress, and ISSUE(w) is the first input
(spec/60_exceptions.md R218; spec/10_state.md R38). -/
def State.withFetchWord (s : State) (nbits w : Nat) : State :=
  { s with script := [], inputs := .issue (BitVec.ofNat 8 (w % 2 ^ nbits)) :: s.inputs }

end Sys2Proof.Machine
end

