-- ==== Sys2Proof/Machine/Assembler.lean ====
section
/-! DEFINITION. The assembler syntax of host programs (spec/30_encoding.md R88): one host action or operation a
line, `;` starts a comment, hex listings are two digits a byte. It has no effect on any meaning (92 D23;
notes/assumptions/18.md). -/

namespace Sys2Proof.Machine

/-- The mnemonic of an operation (spec/30_encoding.md R74, R88). -/
def mnemonic : Instr → String
  | .encQanc => "ENC.QANC"
  | .encQfw => "ENC.QFW"
  | .encQser => "ENC.QSER"
  | .encSetancHigh => "ENC.SETANC.HIGH"
  | .encSetancMid => "ENC.SETANC.MID"
  | .encSetancLow => "ENC.SETANC.LOW"
  | .encSetancAdaptive => "ENC.SETANC.ADAPTIVE"
  | .encSetancOff => "ENC.SETANC.OFF"
  | .encSetancTransparency => "ENC.SETANC.TRANSPARENCY"
  | .decAnc => "DEC.ANC"
  | .decFwlen => "DEC.FWLEN"
  | .decFwstr => "DEC.FWSTR"
  | .decSer => "DEC.SER"
  | .chkGen => "CHK.GEN"
  | .chkVal => "CHK.VAL"

/-- Every operation, in the order of the operation map (spec/30_encoding.md R74). -/
def allOperations : List Instr :=
  [.encQanc, .encQfw, .encQser, .encSetancHigh, .encSetancMid, .encSetancLow, .encSetancAdaptive, .encSetancOff,
    .encSetancTransparency, .decAnc, .decFwlen, .decFwstr, .decSer, .chkGen, .chkVal]

/-- The value of a hex digit, either case. -/
def hexDigit (c : Char) : Option Nat :=
  if '0' ≤ c ∧ c ≤ '9' then some (c.toNat - '0'.toNat)
  else if 'a' ≤ c ∧ c ≤ 'f' then some (c.toNat - 'a'.toNat + 10)
  else if 'A' ≤ c ∧ c ≤ 'F' then some (c.toNat - 'A'.toNat + 10)
  else none

/-- One byte of a hex listing: two digits (spec/30_encoding.md R88). -/
def hexByte : List Char → Option Byte
  | [a, b] =>
    match hexDigit a, hexDigit b with
    | some x, some y => some (BitVec.ofNat 8 (16 * x + y))
    | _, _ => none
  | _ => none

/-- A hex byte listing (spec/30_encoding.md R88). -/
def hexBytes (ws : List (List Char)) : Option (List Byte) := allValues (ws.map hexByte)

/-- A decimal count after the digits read so far. -/
def decimalFrom : Nat → List Char → Option Nat
  | n, [] => some n
  | n, c :: t => if '0' ≤ c ∧ c ≤ '9' then decimalFrom (10 * n + (c.toNat - '0'.toNat)) t else none

/-- A decimal count of at least one digit. -/
def decimal : List Char → Option Nat
  | [] => none
  | c :: t => decimalFrom 0 (c :: t)

/-- The words of a line, separated by spaces; `w` is the word read so far, last letter first. -/
def lineWords : List Char → List Char → List (List Char)
  | w, [] => if w.isEmpty then [] else [w.reverse]
  | w, c :: t =>
    if c = ' ' then (if w.isEmpty then lineWords [] t else w.reverse :: lineWords [] t)
    else lineWords (c :: w) t

/-- The host action a line's words name (spec/30_encoding.md R88). -/
def parseWords : List (List Char) → Option Input
  | [] => none
  | w :: args =>
    if w = "RX.LOAD".toList then (hexBytes args).map .rxLoad
    else if w = "CH.WRITE".toList then (hexBytes args).map .chWrite
    else
      match args with
      | [] =>
        if w = "TX.READ".toList then some .txRead
        else (allOperations.find? fun i => (mnemonic i).toList = w).map fun i => .issue (encodeWord i)
      | [a] =>
        if w = "CH.READ".toList then (decimal a).map .chRead
        else if w = "ISSUE".toList then
          match a with
          | '0' :: 'x' :: h => (hexByte h).map .issue
          | _ => none
        else none
      | _ => none

/-- One line: its host action, or none where nothing stands before the comment; the outer none is a line the
syntax does not have (spec/30_encoding.md R88). -/
def parseLine (line : String) : Option (Option Input) :=
  match lineWords [] (line.toList.takeWhile (· ≠ ';')) with
  | [] => some none
  | ws => (parseWords ws).map some

/-- A program: a sequence of lines (spec/30_encoding.md R88). -/
def parseProgram : List String → Option (List Input)
  | [] => some []
  | l :: t =>
    match parseLine l, parseProgram t with
    | some (some a), some p => some (a :: p)
    | some none, some p => some p
    | _, _ => none

end Sys2Proof.Machine
end

