-- ==== Sys2Proof/Safety.lean ====
section
/-! DEFINITION. What holds of the FCB in every run (spec/10_state.md R22 to R37), and what counts as a safe
outcome, in the terms the statements use. -/

namespace Sys2Proof.Machine

/-- The result registers hold values exactly where the rule of the operation in OPR writes them, UNIT 0 and 1 being
the ENC operations; RES_FWLEN holds one after DEC.FWLEN (spec/40_encoder.md R100; spec/41_decoder.md R131 to R134;
spec/42_checksum.md R164, R165; spec/10_state.md R24, R37). -/
def State.resultsOfOpr (s : State) : Prop :=
  (s.resMode.isSome = true ↔ s.opr = 0x20) ∧
  (s.resStr.isSome = true ↔ s.opr = 0x22 ∨ s.opr = 0x23) ∧
  (s.resStrlen.isSome = true ↔ s.opr = 0x22 ∨ s.opr = 0x23) ∧
  (s.resCrc.isSome = true ↔ s.opr = 0x30 ∨ s.opr = 0x31) ∧
  (s.resRsize.isSome = true ↔ s.opr = 0x21 ∨ (unitField s.opr).toNat ≤ 1) ∧
  (s.opr = 0x21 → s.resFwlen.isSome = true)

/-- The invariant of the FCB's registers. It says nothing of the host's or the channel's fields. -/
structure State.Inv (s : State) : Prop where
  /-- TXBUF holds values at exactly the indices below TXLEN (spec/10_state.md R28). -/
  tx_filled : s.txbuf.filled s.txlen.toNat
  /-- TXLEN is at most 13 (spec/10_state.md R28). -/
  tx_cap : s.txlen.toNat ≤ Config.txCap
  /-- RXBUF holds values at exactly the indices below RXLEN (spec/10_state.md R29). -/
  rx_filled : s.rxbuf.filled s.rxlen.toNat
  /-- RXLEN is at most 265 (spec/10_state.md R29). -/
  rx_cap : s.rxlen.toNat ≤ Config.rxCap
  /-- STATUS bit 7 is 0 (spec/10_state.md R27). -/
  status_reserved : s.status.getLsbD 7 = false
  /-- ERR is 0 to 4: 5, 6 and 7 to 15 are never written (spec/10_state.md R23). -/
  err_range : (statusErr s.status).toNat ≤ 4
  /-- VALID means no error (spec/10_state.md R23, R24). -/
  valid_no_err : statusValid s.status = true → statusErr s.status = 0
  /-- Without VALID and without an error, no operation has been issued since reset (spec/10_state.md R21, R24). -/
  no_op_since_reset : statusValid s.status = false → statusErr s.status = 0 → s.opr = 0
  /-- CRC_OK is set only by a successful CHK.VAL (spec/10_state.md R25). -/
  crc_ok_source : statusCrcOk s.status = true → statusValid s.status = true ∧ s.opr = 0x31
  /-- A live firmware length has a value (spec/10_state.md R26, R31). -/
  latch_value : statusFwlenValid s.status = true → s.resFwlen.isSome = true
  /-- RES_MODE is an inbound code, never 0 or 6 (spec/10_state.md R30). -/
  mode_legal : ∀ c, s.resMode = some c → (modeOf (c.setWidth 8)).isSome = true
  /-- RES_STRLEN is the length of RES_STR, and both hold a value or neither (spec/10_state.md R32). -/
  str_length : s.resStr.map List.length = s.resStrlen.map BitVec.toNat
  /-- RES_RSIZE is at most 257 (spec/10_state.md R34). -/
  rsize_range : ∀ n, s.resRsize = some n → n.toNat ≤ 257
  /-- VALID means that OPR names an operation: a reserved word always fails (spec/10_state.md R24;
  spec/60_exceptions.md R205). -/
  valid_op : statusValid s.status = true → reservedWord s.opr = false
  /-- With VALID the result registers with values are those that the rule of OPR's operation names, and no others
  but RES_FWLEN (spec/10_state.md R24, R37). -/
  valid_results : statusValid s.status = true → s.resultsOfOpr
  /-- Without VALID no result register but RES_FWLEN holds a value (spec/10_state.md R24). -/
  invalid_no_result : statusValid s.status = false →
    s.resMode = none ∧ s.resStr = none ∧ s.resStrlen = none ∧ s.resCrc = none ∧ s.resRsize = none

/-- RXBUF and RXLEN hold exactly a byte sequence (spec/10_state.md R29). -/
def State.holdsRx (s : State) (bytes : List Byte) : Prop :=
  s.rxbuf = Memory.ofBytes bytes ∧ s.rxlen.toNat = bytes.length

/-- The host's and the channel's fields of two states are the same. -/
def sameOutside (s t : State) : Prop :=
  t.channel = s.channel ∧ t.sent = s.sent ∧ t.writeDraws = s.writeDraws ∧ t.readDraws = s.readDraws ∧
    t.inputs = s.inputs ∧ t.script = s.script ∧ t.hostTx = s.hostTx ∧ t.hostRx = s.hostRx ∧ t.hostFw = s.hostFw ∧
    t.hostSn = s.hostSn ∧ t.ret = s.ret ∧ t.result = s.result

/-- A state after an operation of word `w` that left STATUS at `st` and wrote nothing else: OPR and STATUS written,
the five result registers of spec/10_state.md R37 without a value. -/
def opDone (w st : Byte) (s : State) : State :=
  { s with
    opr := w, status := st, resMode := none, resStrlen := none, resStr := none, resCrc := none, resRsize := none }

/-- ENC operations: UNIT 0 or 1 (spec/30_encoding.md R71). -/
def isEnc (i : Instr) : Bool := (unitField (encodeWord i)).toNat ≤ 1

/-- DEC operations: UNIT 2 (spec/30_encoding.md R71). -/
def isDec (i : Instr) : Bool := (unitField (encodeWord i)).toNat = 2

/-- CHK operations: UNIT 3 (spec/30_encoding.md R71). -/
def isChk (i : Instr) : Bool := (unitField (encodeWord i)).toNat = 3

/-- An ENC operation's whole rule: its word, its ROM row, and from every state the next state
(spec/40_encoder.md R100): the frame in TXBUF and NOVALUE past it, TXLEN, RES_RSIZE, STATUS 0x10; TX.READ then
gives the frame. -/
def encBuilds (i : Instr) (w : Byte) (row : Fin 9) (frame : List Byte) (rsize : BitVec 9) : Prop :=
  decode [w] = .ok (i, []) ∧ (romRead row).frame = frame ∧ (romRead row).rsize = rsize ∧
    ∀ s : State, ∃ t : State, exec i s = .next t ∧ txRead t = .next { t with ret := .bytes frame } ∧
      t = { opDone w 0x10 s with
        txbuf := Memory.ofBytes frame, txlen := BitVec.ofNat 4 frame.length, resRsize := some rsize }

/-- The indices of RXBUF a DEC operation's rule names (spec/41_decoder.md R130 to R134). -/
def decReads (i : Instr) (s : State) : List Nat :=
  match i with
  | .decAnc => [9]
  | .decFwlen => [5]
  | .decFwstr => List.range (s.resFwlen.getD 0).toNat
  | .decSer => List.range' 31 16
  | .encQanc | .encQfw | .encQser | .encSetancHigh | .encSetancMid | .encSetancLow | .encSetancAdaptive
  | .encSetancOff | .encSetancTransparency | .chkGen | .chkVal => []

/-- The registers an operation reports its outcome in, but RES_FWLEN, agree. -/
def sameReport (s t : State) : Prop :=
  t.opr = s.opr ∧ t.status = s.status ∧ t.resMode = s.resMode ∧ t.resStrlen = s.resStrlen ∧
    t.resStr = s.resStr ∧ t.resCrc = s.resCrc ∧ t.resRsize = s.resRsize

/-- A run of `k` steps ends an exchange in `t` with outcome `r`: no line is left, and the next input is `rest`'s. -/
def exchangeEnds (k : Nat) (s t : State) (r : ExchangeResult) (rest : List Input) : Prop :=
  Host.Core.run Sys2Proof.core k s = .next t ∧ t.result = some r ∧ t.script = [] ∧ t.inputs = rest

end Sys2Proof.Machine
end

