-- ==== Sys2Proof/Certificates/Slice0/Obligations.lean ====
section
/-! DEFINITION. The statements for the provers. Each docstring names the rule of spec/ it states, or says what of it
is the model's own choice. -/

open Sys2Proof Sys2Proof.Machine

/-! ### Encoding -/

/-- Decoding an encoded operation gives it back and leaves the bytes after it (spec/30_encoding.md R70, R74). -/
def Obligations.DecodeOfEncodeIsTheOperation : Prop :=
  ∀ (i : Instr) (rest : List Byte), decode (encode i ++ rest) = .ok (i, rest)

/-- The decoder refuses exactly the words R75 lists as reserved, and every other word is the word of the operation
it decodes to (spec/30_encoding.md R74, R75, R76). -/
def Obligations.DecodeRefusesExactlyReservedWords : Prop :=
  ∀ w : Byte, (reservedWord w = true → decode [w] = .error (.reserved w)) ∧
    (reservedWord w = false → ∃ i, decode [w] = .ok (i, []) ∧ encode i = [w])

/-- A few words written out bit by bit from the operation map (spec/30_encoding.md R74). -/
def Obligations.SampleWordsDecode : Prop :=
  decode [0b00000011#8] = .ok (.encQser, []) ∧ decode [0b00010111#8] = .ok (.encSetancTransparency, []) ∧
    decode [0b00100010#8] = .ok (.decFwstr, []) ∧ decode [0b00110001#8] = .ok (.chkVal, []) ∧
    decode [0b00010110#8] = .error (.reserved 0x16)

/-- The outbound map: for each mode, ROW_OF is the row R192 lists, the word 0x10 | CODE_OF(m) is the operation that
writes that row's frame to TXBUF, and the frame's byte 9 is CODE_OF(m) (spec/43_lookup_table.md R192). -/
def Obligations.SetAncWordWritesTheModesFrame : Prop :=
  [AncMode.high, .mid, .low, .adaptive, .off, .transparency].map rowOf = [1, 2, 3, 4, 5, 6] ∧
  ∀ m : AncMode, (romRead (rowOf m)).cmd = .setAnc m ∧ (romRead (rowOf m)).frame[9]? = some (codeOf m) ∧
    ∀ s : State, ∃ t, issueWord (0x10#8 ||| codeOf m) s = .next t ∧
      t.txbuf = Memory.ofBytes (romRead (rowOf m)).frame ∧ t.txlen = 13

/-- A program of operation mnemonics, one a line, is the issue of their words in the order of the lines
(spec/30_encoding.md R74, R88). -/
def Obligations.ProgramOfMnemonicsIssuesItsWords : Prop :=
  ∀ is : List Instr, parseProgram (is.map mnemonic) = some (is.map fun i => .issue (encodeWord i))

/-! ### The step and reset -/

/-- When the host's next action issues a word that decodes, outside or inside an exchange, or the word is put where
`withFetchWord` puts it, the step is exec of the decoded operation on the state with that action taken off
(spec/60_exceptions.md R218; where the action stands is the model's choice, notes/assumptions/2.md). -/
def Obligations.StepRunsTheDecodedOperation : Prop :=
  (∀ (s : State) (op : Byte) (i : Instr), decode [op] = .ok (i, []) →
    (∀ rest, s.script = [] → s.inputs = .issue op :: rest → step s = exec i { s with inputs := rest }) ∧
    (∀ rest, s.script = .issue op :: rest → step s = exec i { s with script := rest })) ∧
  ∀ (s : State) (w : Nat) (i : Instr), decodeTableWord 8 w = some i →
    step (s.withFetchWord 8 w) = exec i { s with script := [] }

/-- ISSUE of a reserved word: ERR = 4, VALID = 0, CRC_OK = 0, FWLEN_VALID kept, the result registers but RES_FWLEN
invalidated, OPR the word; everything else unchanged (spec/60_exceptions.md R205). -/
def Obligations.ReservedWordRaisesIllegalOp : Prop :=
  ∀ (s : State) (op : Byte), reservedWord op = true →
    (∀ rest, s.script = [] → s.inputs = .issue op :: rest →
      step s = .next { opDone op ((s.status &&& 0x40#8) ||| 0x04#8) s with inputs := rest }) ∧
    (∀ rest, s.script = .issue op :: rest →
      step s = .next { opDone op ((s.status &&& 0x40#8) ||| 0x04#8) s with script := rest })

/-- What reset leaves in the FCB's registers (spec/10_state.md R41): at `State.reset`, and after the reset input in
any state between exchanges, which leaves the channel and the host as they are (spec/70_reset_and_hazards.md R240,
R241; that reset falls between exchanges only is the model's choice, notes/assumptions/14.md). -/
def Obligations.ResetLeavesTheListedValues : Prop :=
  (∀ s : State, s.resetFcb.opr = 0x00 ∧ s.resetFcb.status = 0x00 ∧ s.resetFcb.txlen = 0 ∧ s.resetFcb.rxlen = 0 ∧
    (∀ j, s.resetFcb.txbuf.read j = none) ∧ (∀ j, s.resetFcb.rxbuf.read j = none) ∧ s.resetFcb.resMode = none ∧
    s.resetFcb.resFwlen = none ∧ s.resetFcb.resStrlen = none ∧ s.resetFcb.resStr = none ∧
    s.resetFcb.resCrc = none ∧ s.resetFcb.resRsize = none ∧ sameOutside s s.resetFcb) ∧
  State.reset.resetFcb = State.reset ∧
  ∀ (s : State) (rest : List Input), s.script = [] → s.inputs = .reset :: rest →
    step s = .next { s.resetFcb with inputs := rest }

/-- Right after reset each DEC raises FRAME_LENGTH (DEC.FWSTR: SEQUENCE), CHK.GEN yields 0xFFFF and CHK.VAL raises
FRAME_LENGTH (spec/70_reset_and_hazards.md R243, its last sentence). -/
def Obligations.DecodersAndChecksumRightAfterReset : Prop :=
  ∀ s : State,
    exec .decAnc s.resetFcb = .next (opDone 0x20 0x02 s.resetFcb) ∧
    exec .decFwlen s.resetFcb = .next (opDone 0x21 0x02 s.resetFcb) ∧
    exec .decFwstr s.resetFcb = .next (opDone 0x22 0x03 s.resetFcb) ∧
    exec .decSer s.resetFcb = .next (opDone 0x23 0x02 s.resetFcb) ∧
    exec .chkGen s.resetFcb = .next { opDone 0x30 0x10 s.resetFcb with resCrc := some 0xFFFF } ∧
    exec .chkVal s.resetFcb = .next (opDone 0x31 0x02 s.resetFcb)

/-! ### The encoder -/

/-- ENC.QANC, ENC.QFW and ENC.QSER: word, row, frame, TXLEN, RES_RSIZE, flags, and nothing else changed, from every
state (spec/40_encoder.md R102, R109, R110). -/
def Obligations.EncQueryBuildsItsFrame : Prop :=
  encBuilds .encQanc 0x01 0 [0x55, 0x60, 0x01, 0x1e, 0xc0, 0x01, 0x00, 0x0c, 0x03, 0x98, 0x19] 16 ∧
  encBuilds .encQfw 0x02 7 [0x55, 0x60, 0x01, 0x42, 0xc0, 0x00, 0x00, 0x03, 0xe0, 0xd1] 8 ∧
  encBuilds .encQser 0x03 8 [0x55, 0x60, 0x01, 0x06, 0xc0, 0x00, 0x00, 0x05, 0x90, 0xdc] 47

/-- The six ENC.SETANC operations: word, row, frame, TXLEN, RES_RSIZE 0, flags, and nothing else changed, from every
state; there is no word 0x16 (spec/40_encoder.md R103 to R108). -/
def Obligations.EncSetAncBuildsItsFrame : Prop :=
  decode [0x16#8] = .error (.reserved 0x16) ∧
  encBuilds .encSetancHigh 0x11 1 [0x55, 0x60, 0x01, 0x0f, 0xf0, 0x03, 0x00, 0xed, 0x01, 0x01, 0x00, 0xcd, 0x47] 0 ∧
  encBuilds .encSetancMid 0x12 2 [0x55, 0x60, 0x01, 0x0f, 0xf0, 0x03, 0x00, 0x56, 0x01, 0x02, 0x00, 0xe9, 0x53] 0 ∧
  encBuilds .encSetancLow 0x13 3 [0x55, 0x60, 0x01, 0x0f, 0xf0, 0x03, 0x00, 0x67, 0x01, 0x03, 0x00, 0xe6, 0x3f] 0 ∧
  encBuilds .encSetancAdaptive 0x14 4
    [0x55, 0x60, 0x01, 0x0f, 0xf0, 0x03, 0x00, 0x76, 0x01, 0x04, 0x00, 0xe1, 0x33] 0 ∧
  encBuilds .encSetancOff 0x15 5 [0x55, 0x60, 0x01, 0x0f, 0xf0, 0x03, 0x00, 0x04, 0x01, 0x05, 0x00, 0xfb, 0xdb] 0 ∧
  encBuilds .encSetancTransparency 0x17 6
    [0x55, 0x60, 0x01, 0x0f, 0xf0, 0x03, 0x00, 0x61, 0x01, 0x07, 0x00, 0xe4, 0x77] 0

/-- For every ENC word, what is written to TXBUF, TXLEN, RES_RSIZE and STATUS is the same whatever the prior state; a
mode's set-ANC operation writes its 13-byte constant (spec/40_encoder.md R111). -/
def Obligations.EncoderIsDeterministic : Prop :=
  (∀ (m : AncMode) (s : State), ∃ t, issueWord (0x10#8 ||| codeOf m) s = .next t ∧ t.txlen = 13 ∧
    t.txbuf = Memory.ofBytes (romRead (rowOf m)).frame) ∧
  ∀ i : Instr, isEnc i = true → ∀ s₁ s₂ : State, ∃ t₁ t₂, exec i s₁ = .next t₁ ∧ exec i s₂ = .next t₂ ∧
    t₁.txbuf = t₂.txbuf ∧ t₁.txlen = t₂.txlen ∧ t₁.resRsize = t₂.resRsize ∧ t₁.status = t₂.status

/-- After an ENC operation no index from TXLEN up holds a value, a host read there is a fault, and TX.READ gives
exactly TXLEN bytes (spec/40_encoder.md R112). -/
def Obligations.EncLeavesNoStaleFrameBytes : Prop :=
  ∀ i : Instr, isEnc i = true → ∀ s : State, ∃ t bytes, exec i s = .next t ∧
    (∀ j, t.txlen.toNat ≤ j → t.txbuf.read j = none ∧ readReg (.txbuf j) t = .fault (.readNoValue (.txbuf j))) ∧
    txRead t = .next { t with ret := .bytes bytes } ∧ bytes.length = t.txlen.toNat

/-- Every ROM frame is what ASSEMBLE builds from CLASS, OPC and PAYLOAD (spec/40_encoder.md R101), with the layout
of spec/30_encoding.md R77, R78, R80 and R84: SYNC, LEN = PLEN at byte 5, LENH = 0 at byte 6, N = 10 + LEN. -/
def Obligations.RomFramesAreAssembled : Prop :=
  ∀ row : Fin 9, assemble (romRead row).cls (romRead row).opc (romRead row).payload = (romRead row).frame ∧
    (romRead row).frame.length = (romRead row).flen ∧ (romRead row).flen = 10 + (romRead row).plen.toNat ∧
    (romRead row).payload.length = (romRead row).plen.toNat ∧
    (romRead row).frame.take 3 = [0x55, 0x60, 0x01] ∧ (romRead row).frame[5]? = some (romRead row).plen ∧
    (romRead row).frame[6]? = some 0x00 ∧ (romRead row).frame[7]? = some (romRead row).opc

/-- The crc16 of each frame before its trailer is the value R163's table gives, and the trailer is that value, low
byte first (spec/42_checksum.md R163). -/
def Obligations.RomTrailersAreTheChecksums : Prop :=
  (∀ row : Fin 9, (romRead row).frame.drop ((romRead row).flen - 2) =
    lowFirst (crc16 ((romRead row).frame.take ((romRead row).flen - 2)))) ∧
  [crc16 ((romRead 0).frame.take 9), crc16 ((romRead 1).frame.take 11), crc16 ((romRead 2).frame.take 11),
    crc16 ((romRead 3).frame.take 11), crc16 ((romRead 4).frame.take 11), crc16 ((romRead 5).frame.take 11),
    crc16 ((romRead 6).frame.take 11), crc16 ((romRead 7).frame.take 8), crc16 ((romRead 8).frame.take 8)] =
  [0x1998, 0x47CD, 0x53E9, 0x3FE6, 0x33E1, 0xDBFB, 0x77E4, 0xD1E0, 0xDC90]

/-! ### The decoder -/

/-- DEC.ANC: FRAME_LENGTH unless RXLEN = 16; INVALID_RESPONSE unless byte 9 is one of the six codes; else RES_MODE is
its low three bits. In each case the whole next state (spec/41_decoder.md R131). -/
def Obligations.DecAncDecodesTheStatusByte : Prop :=
  decode [0x20#8] = .ok (.decAnc, []) ∧
  ∀ s : State,
    (s.rxlen ≠ 16 → exec .decAnc s = .next (opDone 0x20 0x02 s)) ∧
    (s.rxlen = 16 → ∀ c, s.rxbuf.read 9 = some c →
      (c ∈ [0x01, 0x02, 0x03, 0x04, 0x05, 0x07] →
        exec .decAnc s = .next { opDone 0x20 0x10 s with resMode := some (c.setWidth 3) }) ∧
      (c ∉ [0x01, 0x02, 0x03, 0x04, 0x05, 0x07] → exec .decAnc s = .next (opDone 0x20 0x01 s)))

/-- DEC.FWLEN: FRAME_LENGTH unless RXLEN = 8; else RES_FWLEN is byte 5 alone, RES_RSIZE is n + 2 without wrap, and
FWLEN_VALID is set. In each case the whole next state (spec/41_decoder.md R132). -/
def Obligations.DecFwlenLatchesTheLengthByte : Prop :=
  decode [0x21#8] = .ok (.decFwlen, []) ∧
  ∀ s : State,
    (s.rxlen ≠ 8 → exec .decFwlen s = .next (opDone 0x21 0x02 s)) ∧
    (s.rxlen = 8 → ∀ n, s.rxbuf.read 5 = some n → ∃ r : BitVec 9, r.toNat = n.toNat + 2 ∧
      exec .decFwlen s = .next { opDone 0x21 0x50 s with resFwlen := some n, resRsize := some r })

/-- DEC.FWSTR: SEQUENCE without a live length, whatever RXLEN is; FRAME_LENGTH unless RXLEN = n + 2; else RES_STR is
the first n bytes, raw. FWLEN_VALID is 0 in every outcome. In each case the whole next state
(spec/41_decoder.md R133). -/
def Obligations.DecFwstrTakesTheFirstBytes : Prop :=
  decode [0x22#8] = .ok (.decFwstr, []) ∧
  ∀ s : State,
    (statusFwlenValid s.status = false → exec .decFwstr s = .next (opDone 0x22 0x03 s)) ∧
    (statusFwlenValid s.status = true → ∀ n, s.resFwlen = some n →
      (s.rxlen.toNat ≠ n.toNat + 2 → exec .decFwstr s = .next (opDone 0x22 0x02 s)) ∧
      (∀ bytes, s.holdsRx bytes → bytes.length = n.toNat + 2 →
        exec .decFwstr s = .next { opDone 0x22 0x10 s with
          resStr := some (bytes.take n.toNat), resStrlen := some n }))

/-- DEC.SER: FRAME_LENGTH unless RXLEN = 47; else RES_STR is bytes 31 to 46, raw, and RES_STRLEN is 16. In each case
the whole next state (spec/41_decoder.md R134). -/
def Obligations.DecSerTakesTheSerialBytes : Prop :=
  decode [0x23#8] = .ok (.decSer, []) ∧
  ∀ s : State,
    (s.rxlen ≠ 47 → exec .decSer s = .next (opDone 0x23 0x02 s)) ∧
    (∀ bytes, s.holdsRx bytes → bytes.length = 47 → ∃ str : List Byte, str.length = 16 ∧
      (∀ k, k < 16 → str[k]? = bytes[31 + k]?) ∧
      exec .decSer s = .next { opDone 0x23 0x10 s with resStr := some str, resStrlen := some 16 })

/-- Round trip: on any 16-byte buffer whose byte 9 is a mode's code, DEC.ANC succeeds with RES_MODE the code and
MODE_OF(RES_MODE) the mode, and the mode's set-ANC frame carries the code at its byte 9 (spec/41_decoder.md R138). -/
def Obligations.StatusDecodeRoundTrip : Prop :=
  ∀ (m : AncMode) (s : State) (bytes : List Byte), s.holdsRx bytes → bytes.length = 16 →
    bytes[9]? = some (codeOf m) → (romRead (rowOf m)).frame[9]? = some (codeOf m) ∧
    ∃ t v, exec .decAnc s = .next t ∧ statusValid t.status = true ∧ t.resMode = some v ∧
      v.setWidth 8 = codeOf m ∧ modeOf (v.setWidth 8) = some m

/-- MODE_OF is defined exactly on the six codes and CODE_OF is its inverse (spec/43_lookup_table.md R191, the table
of R190). -/
def Obligations.ModeAndCodeAreInverse : Prop :=
  [AncMode.high, .mid, .low, .adaptive, .off, .transparency].map codeOf = [1, 2, 3, 4, 5, 7] ∧
    (∀ m, modeOf (codeOf m) = some m) ∧ (∀ c m, modeOf c = some m → codeOf m = c) ∧
    ∀ c : Byte, (modeOf c).isSome = true ↔ c ∈ [0x01, 0x02, 0x03, 0x04, 0x05, 0x07]

/-- A mode is never a default: whenever DEC.ANC leaves a value in RES_MODE, sixteen bytes were loaded, byte 9 held the
code of a mode, and RES_MODE is that code (spec/41_decoder.md R137; spec/10_state.md R30). -/
def Obligations.NoModeWithoutItsCode : Prop :=
  ∀ (s t : State) (v : BitVec 3), exec .decAnc s = .next t → t.resMode = some v →
    s.rxlen = 16 ∧ statusErr t.status = 0 ∧ ∃ m, s.rxbuf.read 9 = some (codeOf m) ∧ v.setWidth 8 = codeOf m

/-- A DEC operation reads only RXLEN, the bytes its rule names and, for DEC.FWSTR, FWLEN_VALID and RES_FWLEN: two
states that agree there report the same (spec/41_decoder.md R130; spec/10_state.md R40). -/
def Obligations.DecodersReadOnlyTheirOperands : Prop :=
  ∀ (i : Instr) (s₁ s₂ t₁ : State), isDec i = true → s₁.rxlen = s₂.rxlen →
    (∀ j ∈ decReads i s₁, s₁.rxbuf.read j = s₂.rxbuf.read j) →
    (i = .decFwstr → statusFwlenValid s₁.status = statusFwlenValid s₂.status ∧ s₁.resFwlen = s₂.resFwlen) →
    exec i s₁ = .next t₁ →
    ∃ t₂, exec i s₂ = .next t₂ ∧ sameReport t₁ t₂ ∧
      (i = .decFwlen → statusValid t₁.status = true → t₂.resFwlen = t₁.resFwlen)

/-! ### The checksum -/

/-- The check values of the checksum (spec/42_checksum.md R160). -/
def Obligations.ChecksumCheckValues : Prop :=
  crc16 [] = 0xFFFF ∧ crc16 [0x55] = 0x7F7F ∧ crc16 [0x55, 0x60] = 0xC83E ∧ crc16 [0x55, 0x60, 0x01] = 0x1088 ∧
    crc16 [0x31, 0x32, 0x33, 0x34, 0x35, 0x36, 0x37, 0x38, 0x39] = 0x4B37

/-- CHK.GEN: RES_CRC is the crc16 of all loaded bytes, ERR 0, VALID 1, CRC_OK 0, FWLEN_VALID kept, nothing else
changed (spec/42_checksum.md R164). -/
def Obligations.ChkGenComputesTheChecksum : Prop :=
  decode [0x30#8] = .ok (.chkGen, []) ∧ crc16 [] = 0xFFFF ∧
  crc16 [0x55, 0x60, 0x01, 0x42, 0xc0, 0x00, 0x00, 0x03] = 0xD1E0 ∧
  ∀ (s : State) (bytes : List Byte), s.holdsRx bytes →
    exec .chkGen s = .next { opDone 0x30 ((s.status &&& 0x40#8) ||| 0x10#8) s with resCrc := some (crc16 bytes) }

/-- CHK.VAL: FRAME_LENGTH when RXLEN < 2; else RES_CRC is the crc16 of all but the last two bytes and CRC_OK says
whether they hold it, low byte first; FWLEN_VALID is kept; the nine frames validate. In each case the whole next
state (spec/42_checksum.md R165). -/
def Obligations.ChkValComparesTheTrailer : Prop :=
  decode [0x31#8] = .ok (.chkVal, []) ∧ crc16 [] = 0xFF#8 ++ 0xFF#8 ∧
  crc16 [0x55, 0x60, 0x01, 0x1e, 0xc0, 0x01, 0x00, 0x0c, 0x03] = 0x19#8 ++ 0x98#8 ∧
  (∀ s : State, s.rxlen.toNat < 2 → exec .chkVal s = .next (opDone 0x31 ((s.status &&& 0x40#8) ||| 0x02#8) s)) ∧
  (∀ (s : State) (body : List Byte) (lo hi : Byte), s.holdsRx (body ++ [lo, hi]) →
    exec .chkVal s = .next { opDone 0x31
      ((s.status &&& 0x40#8) ||| (if crc16 body = hi ++ lo then 0x30#8 else 0x10#8)) s with
      resCrc := some (crc16 body) }) ∧
  ∀ row : Fin 9, ∃ body lo hi, (romRead row).frame = body ++ [lo, hi] ∧ crc16 body = hi ++ lo

/-- A frame loaded with the checksum of its bytes appended, low byte first, validates
(spec/42_checksum.md R162, R164, R165). -/
def Obligations.AppendedChecksumValidates : Prop :=
  ∀ (s : State) (bytes : List Byte), bytes.length ≤ 263 →
    ∃ t, exec .chkVal (s.loadRx (bytes ++ lowFirst (crc16 bytes))) = .next t ∧ statusValid t.status = true ∧
      statusCrcOk t.status = true ∧ t.resCrc = some (crc16 bytes)

/-- The checksum over any bytes and their appended checksum is 0: the second check of spec/95_test_vectors.md
section 2.1, for all byte sequences (from spec/42_checksum.md R160). -/
def Obligations.ChecksumOverItsTrailerIsZero : Prop :=
  ∀ bytes : List Byte, crc16 (bytes ++ lowFirst (crc16 bytes)) = 0

/-- Of STATUS no operation reads anything but FWLEN_VALID: CRC_OK is advisory, and VALID and ERR gate nothing
(spec/42_checksum.md R166; spec/10_state.md R25, R40). -/
def Obligations.OperationsReadOnlyTheLatchOfStatus : Prop :=
  ∀ (i : Instr) (s : State) (x : Byte), statusFwlenValid x = statusFwlenValid s.status →
    exec i { s with status := x } = exec i s

/-! ### Errors, the latch, and what an operation leaves unchanged -/

/-- The error entry: an operation that raises a code writes OPR, ERR, VALID = 0, CRC_OK = 0 and FWLEN_VALID as R26
says, invalidates the result registers, and changes nothing else; ENC operations never fail
(spec/60_exceptions.md R209). -/
def Obligations.FailedOperationWritesOnlyItsError : Prop :=
  ∀ (op : Byte) (s t : State), issueWord op s = .next t → statusErr t.status ≠ 0 →
    t = opDone op t.status s ∧ (statusErr t.status).toNat ≤ 4 ∧ statusValid t.status = false ∧
    statusCrcOk t.status = false ∧
    (reservedWord op = true → statusErr t.status = 4 ∧ statusFwlenValid t.status = statusFwlenValid s.status) ∧
    ∀ i, decode [op] = .ok (i, []) → isEnc i = false ∧
      (isDec i = true → statusFwlenValid t.status = false) ∧
      (isChk i = true → statusFwlenValid t.status = statusFwlenValid s.status)

/-- How each word leaves FWLEN_VALID: DEC.FWLEN sets it when it succeeds, with a value in RES_FWLEN, and clears it when
it fails; DEC.FWSTR, ENC.*, DEC.ANC and DEC.SER clear it; CHK.* and reserved words keep it (spec/10_state.md R26). -/
def Obligations.LatchFollowsEachOperation : Prop :=
  ∀ (op : Byte) (s t : State), issueWord op s = .next t →
    (reservedWord op = true → statusFwlenValid t.status = statusFwlenValid s.status) ∧
    ∀ i, decode [op] = .ok (i, []) →
      (i = .decFwlen → statusFwlenValid t.status = statusValid t.status ∧
        (statusValid t.status = true → t.resFwlen.isSome = true)) ∧
      (i ≠ .decFwlen → (isEnc i = true ∨ isDec i = true) → statusFwlenValid t.status = false) ∧
      (isChk i = true → statusFwlenValid t.status = statusFwlenValid s.status)

/-- After any issue the result registers with values are exactly those the operation's rule wrote, and only with
VALID = 1 (spec/10_state.md R24, R37). -/
def Obligations.OnlyTheOperationsResultsHoldValues : Prop :=
  ∀ (op : Byte) (s t : State), issueWord op s = .next t →
    t.opr = op ∧ (statusValid t.status = true ↔ statusErr t.status = 0) ∧
    (t.resMode.isSome = true ↔ op = 0x20 ∧ statusValid t.status = true) ∧
    (t.resStr.isSome = true ↔ (op = 0x22 ∨ op = 0x23) ∧ statusValid t.status = true) ∧
    (t.resStrlen.isSome = true ↔ (op = 0x22 ∨ op = 0x23) ∧ statusValid t.status = true) ∧
    (t.resCrc.isSome = true ↔ (op = 0x30 ∨ op = 0x31) ∧ statusValid t.status = true) ∧
    (t.resRsize.isSome = true ↔
      (op = 0x21 ∧ statusValid t.status = true) ∨ ∃ i, decode [op] = .ok (i, []) ∧ isEnc i = true)

/-- The frame of every issue: no operation writes RXBUF or RXLEN, none but ENC writes TXBUF or TXLEN, RES_FWLEN changes
only by a successful DEC.FWLEN, and the host's and the channel's fields do not change
(spec/10_state.md R28, R29, R31; spec/60_exceptions.md R209). -/
def Obligations.OperationFrame : Prop :=
  ∀ (op : Byte) (s t : State), issueWord op s = .next t →
    (∀ j, t.rxbuf.read j = s.rxbuf.read j) ∧ t.rxbuf = s.rxbuf ∧ t.rxlen = s.rxlen ∧ sameOutside s t ∧
    ((∀ i, decode [op] = .ok (i, []) → isEnc i = false) →
      (∀ j, t.txbuf.read j = s.txbuf.read j) ∧ t.txbuf = s.txbuf ∧ t.txlen = s.txlen) ∧
    (op ≠ 0x21 ∨ statusValid t.status = false → t.resFwlen = s.resFwlen)

/-- No step of the whole machine, an exchange's failure included, leaves ERR at 5, 6 or above unless it stood there:
ENCODING and TRANSPORT are never written (spec/60_exceptions.md R206, R207; spec/10_state.md R23). -/
def Obligations.NoStepWritesEncodingOrTransport : Prop :=
  ∀ s t : State, step s = .next t → t.status = s.status ∨
    ((statusErr t.status).toNat ≤ 4 ∧ t.status.getLsbD 7 = false)

/-! ### The invariant -/

/-- The invariant holds at reset (spec/10_state.md R41). -/
def Obligations.ResetSatisfiesTheInvariant : Prop := State.reset.Inv

/-- Every step keeps the invariant (spec/10_state.md R22 to R34, R37): with VALID the result registers that the rule of
the operation in OPR names hold values (R24), without it none but RES_FWLEN does. -/
def Obligations.StepKeepsTheInvariant : Prop :=
  ∀ s t : State, s.Inv → step s = .next t → t.Inv

/-- Under the invariant every one of the 256 words runs to a next state: no operation ever meets a NOVALUE operand,
and no word is left open (spec/10_state.md R36; spec/30_encoding.md R76). -/
def Obligations.EveryWordCompletesUnderTheInvariant : Prop :=
  ∀ (op : Byte) (s : State), s.Inv → ∃ t, issueWord op s = .next t ∧ t.opr = op ∧ t.Inv

/-! ### The host and the channel -/

/-- RX.LOAD of at most 265 bytes: RXBUF holds exactly them, no value past them, RXLEN is their number, nothing else
changes but the input taken; of more, no step (spec/60_exceptions.md R218; spec/10_state.md R29). -/
def Obligations.RxLoadFillsTheBuffer : Prop :=
  ∀ (s : State) (bytes : List Byte) (rest : List Input), s.script = [] → s.inputs = .rxLoad bytes :: rest →
    (bytes.length ≤ 265 → ∃ t, step s = .next t ∧ t.rxlen.toNat = bytes.length ∧
      (∀ j, t.rxbuf.read j = bytes[j]?) ∧ t = { s with rxbuf := t.rxbuf, rxlen := t.rxlen, inputs := rest }) ∧
    (265 < bytes.length → step s = .refused (.rxLoadTooLong bytes.length))

/-- TX.READ gives TXBUF[0..TXLEN] and changes no register (spec/60_exceptions.md R218; spec/10_state.md R28). -/
def Obligations.TxReadReturnsTheFrame : Prop :=
  ∀ (s : State) (bytes : List Byte) (rest : List Input), s.script = [] → s.inputs = .txRead :: rest →
    s.txbuf = Memory.ofBytes bytes → s.txlen.toNat = bytes.length →
    step s = .next { s with inputs := rest, ret := .bytes bytes }

/-- After an operation that failed, a host read of any result register but RES_FWLEN is a fault
(spec/10_state.md R36, R37; spec/60_exceptions.md R209). -/
def Obligations.ReadOfAResultAfterAnErrorFaults : Prop :=
  ∀ (op : Byte) (s t u : State) (r : HostReg) (rest : List Input), issueWord op s = .next t →
    statusErr t.status ≠ 0 → r ∈ [.resMode, .resStrlen, .resStr, .resCrc, .resRsize] →
    u = { t with script := [], inputs := .readReg r :: rest } → step u = .fault (.readNoValue r)

/-- A host read of a register or buffer byte that holds a value returns it and changes nothing else, for every register
R39 lets the host read: OPR, STATUS, the two lengths, a byte of TXBUF below TXLEN, a byte of RXBUF below RXLEN, and the
six RES_ registers, a firmware length that is no longer live too (spec/10_state.md R28, R29, R31, R39). STATUS bit 7
reads 0 in every state (R22, R27); that the read masks it is DEDUCED, notes/assumptions/11.md. The form of the value is
the model's choice, notes/assumptions/20.md. -/
def Obligations.HostReadReturnsTheRegister : Prop :=
  ∀ (s : State) (rest : List Input), s.script = [] →
    (s.inputs = .readReg .opr :: rest → step s = .next { s with inputs := rest, ret := .num s.opr.toNat }) ∧
    (s.inputs = .readReg .status :: rest →
      step s = .next { s with inputs := rest, ret := .num (s.status &&& 0x7F#8).toNat }) ∧
    (s.inputs = .readReg .txlen :: rest → step s = .next { s with inputs := rest, ret := .num s.txlen.toNat }) ∧
    (s.inputs = .readReg .rxlen :: rest → step s = .next { s with inputs := rest, ret := .num s.rxlen.toNat }) ∧
    (∀ j b, s.inputs = .readReg (.rxbuf j) :: rest → s.rxbuf.read j = some b → j < s.rxlen.toNat →
      step s = .next { s with inputs := rest, ret := .num b.toNat }) ∧
    (∀ j b, s.inputs = .readReg (.txbuf j) :: rest → s.txbuf.read j = some b → j < s.txlen.toNat →
      step s = .next { s with inputs := rest, ret := .num b.toNat }) ∧
    (∀ c, s.inputs = .readReg .resMode :: rest → s.resMode = some c →
      step s = .next { s with inputs := rest, ret := .num c.toNat }) ∧
    (∀ n, s.inputs = .readReg .resFwlen :: rest → s.resFwlen = some n →
      step s = .next { s with inputs := rest, ret := .num n.toNat }) ∧
    (∀ n, s.inputs = .readReg .resStrlen :: rest → s.resStrlen = some n →
      step s = .next { s with inputs := rest, ret := .num n.toNat }) ∧
    (∀ str, s.inputs = .readReg .resStr :: rest → s.resStr = some str →
      step s = .next { s with inputs := rest, ret := .bytes str }) ∧
    (∀ c, s.inputs = .readReg .resCrc :: rest → s.resCrc = some c →
      step s = .next { s with inputs := rest, ret := .num c.toNat }) ∧
    (∀ n, s.inputs = .readReg .resRsize :: rest → s.resRsize = some n →
      step s = .next { s with inputs := rest, ret := .num n.toNat })

/-- The bring-up supplies a connected channel where there is none, and changes nothing else; a second channel is
refused (the model's choice, notes/assumptions/4.md); with no input and no exchange in progress a step changes
nothing (spec/70_reset_and_hazards.md R241, R243; notes/assumptions/7.md). -/
def Obligations.BringUpSuppliesOneChannel : Prop :=
  ∀ s : State, s.script = [] →
    (∀ rest, s.inputs = .channelUp :: rest →
      (s.channel = .absent → step s = .next { s with inputs := rest, channel := .connected }) ∧
      (s.channel ≠ .absent → step s = .refused .channelAlreadySupplied)) ∧
    (s.inputs = [] → step s = .next s)

/-- On a dead channel, and without a channel, every CH.WRITE and CH.READ is refused, outside and inside an exchange
(spec/60_exceptions.md R222; spec/70_reset_and_hazards.md R243, R247). -/
def Obligations.NoChannelActionOnADeadChannel : Prop :=
  ∀ (s : State) (r : Refusal), (s.channel = .dead ∧ r = .channelDead) ∨ (s.channel = .absent ∧ r = .channelAbsent) →
    (∀ bytes rest, s.script = [] → s.inputs = .chWrite bytes :: rest → step s = .refused r) ∧
    (∀ n rest, s.script = [] → s.inputs = .chRead n :: rest → step s = .refused r) ∧
    (∀ rest, s.script = .chWrite :: rest → step s = .refused r) ∧
    (∀ n rest, s.script = .chRead :: rest → s.resRsize = some n → step s = .refused r)

/-- A CH.READ that the environment does not answer is a hang: after any number of steps the machine is where it was,
outside and inside an exchange (spec/60_exceptions.md R228; spec/70_reset_and_hazards.md R250; that a hang is a step
that changes nothing is the model's choice, notes/assumptions/6.md). -/
def Obligations.UnansweredReadHangs : Prop :=
  ∀ (k : Nat) (s : State), s.channel = .connected → s.readDraws = [] →
    ((∃ n rest, s.script = [] ∧ s.inputs = .chRead n :: rest) ∨
      (∃ n rest, s.script = .chRead :: rest ∧ s.resRsize = some n)) →
    Host.Core.run Sys2Proof.core k s = .next s

/-- CH.READ(n) returns exactly n bytes, or IoError and the channel is dead; each draw of n bytes is returned, each other
draw is IoError; no FCB register changes (spec/60_exceptions.md R220, R222; the draws are the model's form of the
oracle, notes/assumptions/5.md). -/
def Obligations.ChannelReadFillsOrFails : Prop :=
  ∀ (s : State) (n : Nat) (rest : List Input) (d : ReadDraw) (ds : List ReadDraw), s.script = [] →
    s.inputs = .chRead n :: rest → s.channel = .connected → s.readDraws = d :: ds →
    (∀ b, d = .bytes b → b.length = n →
      step s = .next { s with inputs := rest, readDraws := ds, ret := .bytes b }) ∧
    ((∀ b, d = .bytes b → b.length ≠ n) →
      step s = .next { s with inputs := rest, readDraws := ds, channel := .dead, ret := .ioError })

/-- CH.WRITE writes all bytes, in order, or fails and the channel is dead; both answers are admitted; no FCB register
changes (spec/60_exceptions.md R219, R222; `sent` holds completed writes only, notes/assumptions/16.md). -/
def Obligations.ChannelWriteCompletesOrFails : Prop :=
  ∀ (s : State) (bytes : List Byte) (rest : List Input) (d : WriteDraw) (ds : List WriteDraw), s.script = [] →
    s.inputs = .chWrite bytes :: rest → s.channel = .connected → s.writeDraws = d :: ds →
    (d = .ok → step s = .next { s with inputs := rest, writeDraws := ds, sent := s.sent ++ bytes, ret := .ok }) ∧
    (d = .ioError →
      step s = .next { s with inputs := rest, writeDraws := ds, channel := .dead, ret := .ioError })

/-! ### The exchanges -/

/-- No exchange issues a reserved word (spec/60_exceptions.md R227). -/
def Obligations.ExchangesIssueDefinedWords : Prop :=
  ∀ (e : Exchange) (op : Byte), ExchangeStep.issue op ∈ e.lines → reservedWord op = false

/-- EXCH.QUERY_ANC from any state with a connected channel, for every answer of the channel: a failed write or a failed
read ends it with TRANSPORT and the channel dead; otherwise the eleven-byte query frame has been written, exactly one
answer of sixteen bytes read, and the outcome is Ok of the mode byte 9 codes, or InvalidResponse
(spec/60_exceptions.md R223). It rests on choices of the model: `sent` does not change on a failed write
(notes/assumptions/16.md, unsafe), a draw of any other number of bytes is IoError (notes/assumptions/5.md), and the
counts of 4, 5 and 8 steps (notes/assumptions/19.md, 23.md). -/
def Obligations.QueryAncExchange : Prop :=
  ∀ (s : State) (rest : List Input), s.script = [] → s.inputs = .exchange .queryAnc :: rest →
    s.channel = .connected →
    (∀ ws, s.writeDraws = .ioError :: ws →
      ∃ t, exchangeEnds 4 s t .transport rest ∧ t.channel = .dead ∧ t.sent = s.sent ∧
        t.readDraws = s.readDraws ∧ t.status = 0x10) ∧
    (∀ ws d rs, s.writeDraws = .ok :: ws → s.readDraws = d :: rs → (∀ b, d = .bytes b → b.length ≠ 16) →
      ∃ t, exchangeEnds 5 s t .transport rest ∧ t.channel = .dead ∧ t.rxbuf = s.rxbuf ∧ t.status = 0x10) ∧
    (∀ ws r rs c, s.writeDraws = .ok :: ws → s.readDraws = .bytes r :: rs → r.length = 16 → r[9]? = some c →
      ∃ t out, exchangeEnds 8 s t out rest ∧ t.channel = .connected ∧ t.writeDraws = ws ∧ t.readDraws = rs ∧
        t.sent = s.sent ++ [0x55, 0x60, 0x01, 0x1e, 0xc0, 0x01, 0x00, 0x0c, 0x03, 0x98, 0x19] ∧
        (∀ m, c = codeOf m → out = .okMode m) ∧
        (c ∉ [0x01, 0x02, 0x03, 0x04, 0x05, 0x07] → out = .invalidResponse ∧ t.status = 0x01))

/-- EXCH.SET_ANC(m) from any state with a connected channel: a failed write ends it with TRANSPORT and the channel dead;
otherwise exactly the mode's thirteen-byte frame has been written, nothing has been read, and the outcome is Ok
(spec/60_exceptions.md R224). It rests on choices of the model: `sent` does not change on a failed write
(notes/assumptions/16.md, unsafe), and the counts of 4 and 5 steps (notes/assumptions/19.md, 23.md). -/
def Obligations.SetAncExchange : Prop :=
  ∀ (m : AncMode) (s : State) (rest : List Input), s.script = [] → s.inputs = .exchange (.setAnc m) :: rest →
    s.channel = .connected →
    (∀ ws, s.writeDraws = .ioError :: ws →
      ∃ t, exchangeEnds 4 s t .transport rest ∧ t.channel = .dead ∧ t.sent = s.sent ∧
        t.readDraws = s.readDraws ∧ t.opr = 0x10#8 ||| codeOf m ∧ t.status = 0x10) ∧
    (∀ ws, s.writeDraws = .ok :: ws →
      ∃ t, exchangeEnds 5 s t .okUnit rest ∧ t.channel = .connected ∧ t.writeDraws = ws ∧
        t.readDraws = s.readDraws ∧ t.resRsize = some 0 ∧ t.sent = s.sent ++ (romRead (rowOf m)).frame)

/-- EXCH.QUERY_DEVICE_INFO from any state with a connected channel whose writes succeed and whose reads give 8, n + 2 and
47 bytes, n being byte 5 of the first: it ends with Ok of the texts of the first n bytes and of bytes 31 to 46; both
query frames have been written; no FCB operation fails (spec/60_exceptions.md R225, R227). It holds whatever
`lossyText` is. The count of 19 steps is the model's choice (notes/assumptions/19.md, 23.md), as is the form of the
channel's answers (notes/assumptions/5.md). -/
def Obligations.QueryDeviceInfoExchange : Prop :=
  ∀ (s : State) (rest : List Input) (ws : List WriteDraw) (rs : List ReadDraw) (r₁ r₂ r₃ : List Byte) (n : Byte),
    s.script = [] → s.inputs = .exchange .queryDeviceInfo :: rest → s.channel = .connected →
    s.writeDraws = .ok :: .ok :: ws → s.readDraws = .bytes r₁ :: .bytes r₂ :: .bytes r₃ :: rs →
    r₁.length = 8 → r₁[5]? = some n → r₂.length = n.toNat + 2 → r₃.length = 47 →
    ∃ t, exchangeEnds 19 s t (.okInfo (Config.lossyText (r₂.take n.toNat))
        (Config.lossyText ((r₃.drop 31).take 16))) rest ∧
      t.channel = .connected ∧ t.writeDraws = ws ∧ t.readDraws = rs ∧ t.status = 0x10 ∧
      t.sent = s.sent ++ [0x55, 0x60, 0x01, 0x42, 0xc0, 0x00, 0x00, 0x03, 0xe0, 0xd1] ++
        [0x55, 0x60, 0x01, 0x06, 0xc0, 0x00, 0x00, 0x05, 0x90, 0xdc]

/-- EXCH.QUERY_DEVICE_INFO ends with TRANSPORT and a dead channel when a channel action fails: at the first write, the
stage-1 read, the stage-2 read (after DEC.FWLEN, whose STATUS 0x50 and length stand), the serial write and the serial
read (spec/60_exceptions.md R222, R225). It rests on choices of the model: `sent` does not change on the failed first
write (notes/assumptions/16.md, unsafe), a draw of any other number of bytes is IoError (notes/assumptions/5.md), and
the counts of 4, 5, 8, 14 and 15 steps (notes/assumptions/19.md, 23.md). -/
def Obligations.DeviceInfoTransportFailures : Prop :=
  ∀ (s : State) (rest : List Input), s.script = [] → s.inputs = .exchange .queryDeviceInfo :: rest →
    s.channel = .connected →
    (∀ ws, s.writeDraws = .ioError :: ws →
      ∃ t, exchangeEnds 4 s t .transport rest ∧ t.channel = .dead ∧ t.sent = s.sent) ∧
    (∀ ws d₁ rs, s.writeDraws = .ok :: ws → s.readDraws = d₁ :: rs → (∀ b, d₁ = .bytes b → b.length ≠ 8) →
      ∃ t, exchangeEnds 5 s t .transport rest ∧ t.channel = .dead ∧ t.status = 0x10) ∧
    (∀ ws r₁ n d₂ rs, s.writeDraws = .ok :: ws → s.readDraws = .bytes r₁ :: d₂ :: rs → r₁.length = 8 →
      r₁[5]? = some n → (∀ b, d₂ = .bytes b → b.length ≠ n.toNat + 2) →
      ∃ t, exchangeEnds 8 s t .transport rest ∧ t.channel = .dead ∧ t.opr = 0x21 ∧ t.status = 0x50 ∧
        t.resFwlen = some n) ∧
    (∀ ws r₁ n r₂ rs, s.writeDraws = .ok :: .ioError :: ws → s.readDraws = .bytes r₁ :: .bytes r₂ :: rs →
      r₁.length = 8 → r₁[5]? = some n → r₂.length = n.toNat + 2 →
      ∃ t, exchangeEnds 14 s t .transport rest ∧ t.channel = .dead ∧ t.readDraws = rs ∧ t.status = 0x10) ∧
    (∀ ws r₁ n r₂ d₃ rs, s.writeDraws = .ok :: .ok :: ws → s.readDraws = .bytes r₁ :: .bytes r₂ :: d₃ :: rs →
      r₁.length = 8 → r₁[5]? = some n → r₂.length = n.toNat + 2 → (∀ b, d₃ = .bytes b → b.length ≠ 47) →
      ∃ t, exchangeEnds 15 s t .transport rest ∧ t.channel = .dead ∧ t.opr = 0x03 ∧ t.status = 0x10)

/-! ### Reads that find no value -/

/-- A host read of a register or buffer byte without a value is the named fault: TXBUF from TXLEN up, RXBUF from RXLEN up,
whatever the store holds there, a RES_FWLEN that no DEC.FWLEN has latched since reset, and the other RES_ registers at
NOVALUE (spec/10_state.md R28, R29, R31, R36). -/
def Obligations.HostReadOfNoValueFaults : Prop :=
  ∀ (s : State) (rest : List Input), s.script = [] →
    (∀ j, s.inputs = .readReg (.txbuf j) :: rest → s.txlen.toNat ≤ j → step s = .fault (.readNoValue (.txbuf j))) ∧
    (∀ j, s.inputs = .readReg (.rxbuf j) :: rest → s.rxlen.toNat ≤ j → step s = .fault (.readNoValue (.rxbuf j))) ∧
    (s.inputs = .readReg .resMode :: rest → s.resMode = none → step s = .fault (.readNoValue .resMode)) ∧
    (s.inputs = .readReg .resFwlen :: rest → s.resFwlen = none → step s = .fault (.readNoValue .resFwlen)) ∧
    (s.inputs = .readReg .resStrlen :: rest → s.resStrlen = none → step s = .fault (.readNoValue .resStrlen)) ∧
    (s.inputs = .readReg .resStr :: rest → s.resStr = none → step s = .fault (.readNoValue .resStr)) ∧
    (s.inputs = .readReg .resCrc :: rest → s.resCrc = none → step s = .fault (.readNoValue .resCrc)) ∧
    (s.inputs = .readReg .resRsize :: rest → s.resRsize = none → step s = .fault (.readNoValue .resRsize))
end

