-- ==== Sys2Proof/Laws/State.lean ====
section
/-! SUPPORT. One lemma per field per update of State, true by rfl, so that no proof unfolds a record update. -/

namespace Sys2Proof.Machine

@[simp] theorem State.beginOp_opr (s : State) (op : Byte) :
    (s.beginOp op).opr = op := rfl
@[simp] theorem State.beginOp_status (s : State) (op : Byte) :
    (s.beginOp op).status = s.status := rfl
@[simp] theorem State.beginOp_txbuf (s : State) (op : Byte) :
    (s.beginOp op).txbuf = s.txbuf := rfl
@[simp] theorem State.beginOp_txlen (s : State) (op : Byte) :
    (s.beginOp op).txlen = s.txlen := rfl
@[simp] theorem State.beginOp_rxbuf (s : State) (op : Byte) :
    (s.beginOp op).rxbuf = s.rxbuf := rfl
@[simp] theorem State.beginOp_rxlen (s : State) (op : Byte) :
    (s.beginOp op).rxlen = s.rxlen := rfl
@[simp] theorem State.beginOp_resMode (s : State) (op : Byte) :
    (s.beginOp op).resMode = none := rfl
@[simp] theorem State.beginOp_resFwlen (s : State) (op : Byte) :
    (s.beginOp op).resFwlen = s.resFwlen := rfl
@[simp] theorem State.beginOp_resStrlen (s : State) (op : Byte) :
    (s.beginOp op).resStrlen = none := rfl
@[simp] theorem State.beginOp_resStr (s : State) (op : Byte) :
    (s.beginOp op).resStr = none := rfl
@[simp] theorem State.beginOp_resCrc (s : State) (op : Byte) :
    (s.beginOp op).resCrc = none := rfl
@[simp] theorem State.beginOp_resRsize (s : State) (op : Byte) :
    (s.beginOp op).resRsize = none := rfl
@[simp] theorem State.beginOp_channel (s : State) (op : Byte) :
    (s.beginOp op).channel = s.channel := rfl
@[simp] theorem State.beginOp_sent (s : State) (op : Byte) :
    (s.beginOp op).sent = s.sent := rfl
@[simp] theorem State.beginOp_writeDraws (s : State) (op : Byte) :
    (s.beginOp op).writeDraws = s.writeDraws := rfl
@[simp] theorem State.beginOp_readDraws (s : State) (op : Byte) :
    (s.beginOp op).readDraws = s.readDraws := rfl
@[simp] theorem State.beginOp_inputs (s : State) (op : Byte) :
    (s.beginOp op).inputs = s.inputs := rfl
@[simp] theorem State.beginOp_script (s : State) (op : Byte) :
    (s.beginOp op).script = s.script := rfl
@[simp] theorem State.beginOp_hostTx (s : State) (op : Byte) :
    (s.beginOp op).hostTx = s.hostTx := rfl
@[simp] theorem State.beginOp_hostRx (s : State) (op : Byte) :
    (s.beginOp op).hostRx = s.hostRx := rfl
@[simp] theorem State.beginOp_hostFw (s : State) (op : Byte) :
    (s.beginOp op).hostFw = s.hostFw := rfl
@[simp] theorem State.beginOp_hostSn (s : State) (op : Byte) :
    (s.beginOp op).hostSn = s.hostSn := rfl
@[simp] theorem State.beginOp_ret (s : State) (op : Byte) :
    (s.beginOp op).ret = s.ret := rfl
@[simp] theorem State.beginOp_result (s : State) (op : Byte) :
    (s.beginOp op).result = s.result := rfl

@[simp] theorem State.setStatus_opr (s : State) (e : ErrCode) (valid crcOk : Bool) (latch : Latch) :
    (s.setStatus e valid crcOk latch).opr = s.opr := rfl
@[simp] theorem State.setStatus_status (s : State) (e : ErrCode) (valid crcOk : Bool) (latch : Latch) :
    (s.setStatus e valid crcOk latch).status = statusWord e valid crcOk (latch.apply s.fwlenValid) := rfl
@[simp] theorem State.setStatus_txbuf (s : State) (e : ErrCode) (valid crcOk : Bool) (latch : Latch) :
    (s.setStatus e valid crcOk latch).txbuf = s.txbuf := rfl
@[simp] theorem State.setStatus_txlen (s : State) (e : ErrCode) (valid crcOk : Bool) (latch : Latch) :
    (s.setStatus e valid crcOk latch).txlen = s.txlen := rfl
@[simp] theorem State.setStatus_rxbuf (s : State) (e : ErrCode) (valid crcOk : Bool) (latch : Latch) :
    (s.setStatus e valid crcOk latch).rxbuf = s.rxbuf := rfl
@[simp] theorem State.setStatus_rxlen (s : State) (e : ErrCode) (valid crcOk : Bool) (latch : Latch) :
    (s.setStatus e valid crcOk latch).rxlen = s.rxlen := rfl
@[simp] theorem State.setStatus_resMode (s : State) (e : ErrCode) (valid crcOk : Bool) (latch : Latch) :
    (s.setStatus e valid crcOk latch).resMode = s.resMode := rfl
@[simp] theorem State.setStatus_resFwlen (s : State) (e : ErrCode) (valid crcOk : Bool) (latch : Latch) :
    (s.setStatus e valid crcOk latch).resFwlen = s.resFwlen := rfl
@[simp] theorem State.setStatus_resStrlen (s : State) (e : ErrCode) (valid crcOk : Bool) (latch : Latch) :
    (s.setStatus e valid crcOk latch).resStrlen = s.resStrlen := rfl
@[simp] theorem State.setStatus_resStr (s : State) (e : ErrCode) (valid crcOk : Bool) (latch : Latch) :
    (s.setStatus e valid crcOk latch).resStr = s.resStr := rfl
@[simp] theorem State.setStatus_resCrc (s : State) (e : ErrCode) (valid crcOk : Bool) (latch : Latch) :
    (s.setStatus e valid crcOk latch).resCrc = s.resCrc := rfl
@[simp] theorem State.setStatus_resRsize (s : State) (e : ErrCode) (valid crcOk : Bool) (latch : Latch) :
    (s.setStatus e valid crcOk latch).resRsize = s.resRsize := rfl
@[simp] theorem State.setStatus_channel (s : State) (e : ErrCode) (valid crcOk : Bool) (latch : Latch) :
    (s.setStatus e valid crcOk latch).channel = s.channel := rfl
@[simp] theorem State.setStatus_sent (s : State) (e : ErrCode) (valid crcOk : Bool) (latch : Latch) :
    (s.setStatus e valid crcOk latch).sent = s.sent := rfl
@[simp] theorem State.setStatus_writeDraws (s : State) (e : ErrCode) (valid crcOk : Bool) (latch : Latch) :
    (s.setStatus e valid crcOk latch).writeDraws = s.writeDraws := rfl
@[simp] theorem State.setStatus_readDraws (s : State) (e : ErrCode) (valid crcOk : Bool) (latch : Latch) :
    (s.setStatus e valid crcOk latch).readDraws = s.readDraws := rfl
@[simp] theorem State.setStatus_inputs (s : State) (e : ErrCode) (valid crcOk : Bool) (latch : Latch) :
    (s.setStatus e valid crcOk latch).inputs = s.inputs := rfl
@[simp] theorem State.setStatus_script (s : State) (e : ErrCode) (valid crcOk : Bool) (latch : Latch) :
    (s.setStatus e valid crcOk latch).script = s.script := rfl
@[simp] theorem State.setStatus_hostTx (s : State) (e : ErrCode) (valid crcOk : Bool) (latch : Latch) :
    (s.setStatus e valid crcOk latch).hostTx = s.hostTx := rfl
@[simp] theorem State.setStatus_hostRx (s : State) (e : ErrCode) (valid crcOk : Bool) (latch : Latch) :
    (s.setStatus e valid crcOk latch).hostRx = s.hostRx := rfl
@[simp] theorem State.setStatus_hostFw (s : State) (e : ErrCode) (valid crcOk : Bool) (latch : Latch) :
    (s.setStatus e valid crcOk latch).hostFw = s.hostFw := rfl
@[simp] theorem State.setStatus_hostSn (s : State) (e : ErrCode) (valid crcOk : Bool) (latch : Latch) :
    (s.setStatus e valid crcOk latch).hostSn = s.hostSn := rfl
@[simp] theorem State.setStatus_ret (s : State) (e : ErrCode) (valid crcOk : Bool) (latch : Latch) :
    (s.setStatus e valid crcOk latch).ret = s.ret := rfl
@[simp] theorem State.setStatus_result (s : State) (e : ErrCode) (valid crcOk : Bool) (latch : Latch) :
    (s.setStatus e valid crcOk latch).result = s.result := rfl

@[simp] theorem State.succeed_opr (s : State) (crcOk : Bool) (latch : Latch) :
    (s.succeed crcOk latch).opr = s.opr := rfl
@[simp] theorem State.succeed_status (s : State) (crcOk : Bool) (latch : Latch) :
    (s.succeed crcOk latch).status = statusWord .none true crcOk (latch.apply s.fwlenValid) := rfl
@[simp] theorem State.succeed_txbuf (s : State) (crcOk : Bool) (latch : Latch) :
    (s.succeed crcOk latch).txbuf = s.txbuf := rfl
@[simp] theorem State.succeed_txlen (s : State) (crcOk : Bool) (latch : Latch) :
    (s.succeed crcOk latch).txlen = s.txlen := rfl
@[simp] theorem State.succeed_rxbuf (s : State) (crcOk : Bool) (latch : Latch) :
    (s.succeed crcOk latch).rxbuf = s.rxbuf := rfl
@[simp] theorem State.succeed_rxlen (s : State) (crcOk : Bool) (latch : Latch) :
    (s.succeed crcOk latch).rxlen = s.rxlen := rfl
@[simp] theorem State.succeed_resMode (s : State) (crcOk : Bool) (latch : Latch) :
    (s.succeed crcOk latch).resMode = s.resMode := rfl
@[simp] theorem State.succeed_resFwlen (s : State) (crcOk : Bool) (latch : Latch) :
    (s.succeed crcOk latch).resFwlen = s.resFwlen := rfl
@[simp] theorem State.succeed_resStrlen (s : State) (crcOk : Bool) (latch : Latch) :
    (s.succeed crcOk latch).resStrlen = s.resStrlen := rfl
@[simp] theorem State.succeed_resStr (s : State) (crcOk : Bool) (latch : Latch) :
    (s.succeed crcOk latch).resStr = s.resStr := rfl
@[simp] theorem State.succeed_resCrc (s : State) (crcOk : Bool) (latch : Latch) :
    (s.succeed crcOk latch).resCrc = s.resCrc := rfl
@[simp] theorem State.succeed_resRsize (s : State) (crcOk : Bool) (latch : Latch) :
    (s.succeed crcOk latch).resRsize = s.resRsize := rfl
@[simp] theorem State.succeed_channel (s : State) (crcOk : Bool) (latch : Latch) :
    (s.succeed crcOk latch).channel = s.channel := rfl
@[simp] theorem State.succeed_sent (s : State) (crcOk : Bool) (latch : Latch) :
    (s.succeed crcOk latch).sent = s.sent := rfl
@[simp] theorem State.succeed_writeDraws (s : State) (crcOk : Bool) (latch : Latch) :
    (s.succeed crcOk latch).writeDraws = s.writeDraws := rfl
@[simp] theorem State.succeed_readDraws (s : State) (crcOk : Bool) (latch : Latch) :
    (s.succeed crcOk latch).readDraws = s.readDraws := rfl
@[simp] theorem State.succeed_inputs (s : State) (crcOk : Bool) (latch : Latch) :
    (s.succeed crcOk latch).inputs = s.inputs := rfl
@[simp] theorem State.succeed_script (s : State) (crcOk : Bool) (latch : Latch) :
    (s.succeed crcOk latch).script = s.script := rfl
@[simp] theorem State.succeed_hostTx (s : State) (crcOk : Bool) (latch : Latch) :
    (s.succeed crcOk latch).hostTx = s.hostTx := rfl
@[simp] theorem State.succeed_hostRx (s : State) (crcOk : Bool) (latch : Latch) :
    (s.succeed crcOk latch).hostRx = s.hostRx := rfl
@[simp] theorem State.succeed_hostFw (s : State) (crcOk : Bool) (latch : Latch) :
    (s.succeed crcOk latch).hostFw = s.hostFw := rfl
@[simp] theorem State.succeed_hostSn (s : State) (crcOk : Bool) (latch : Latch) :
    (s.succeed crcOk latch).hostSn = s.hostSn := rfl
@[simp] theorem State.succeed_ret (s : State) (crcOk : Bool) (latch : Latch) :
    (s.succeed crcOk latch).ret = s.ret := rfl
@[simp] theorem State.succeed_result (s : State) (crcOk : Bool) (latch : Latch) :
    (s.succeed crcOk latch).result = s.result := rfl

@[simp] theorem State.raise_opr (s : State) (k : ErrCode) (latch : Latch) :
    (s.raise k latch).opr = s.opr := rfl
@[simp] theorem State.raise_status (s : State) (k : ErrCode) (latch : Latch) :
    (s.raise k latch).status = statusWord k false false (latch.apply s.fwlenValid) := rfl
@[simp] theorem State.raise_txbuf (s : State) (k : ErrCode) (latch : Latch) :
    (s.raise k latch).txbuf = s.txbuf := rfl
@[simp] theorem State.raise_txlen (s : State) (k : ErrCode) (latch : Latch) :
    (s.raise k latch).txlen = s.txlen := rfl
@[simp] theorem State.raise_rxbuf (s : State) (k : ErrCode) (latch : Latch) :
    (s.raise k latch).rxbuf = s.rxbuf := rfl
@[simp] theorem State.raise_rxlen (s : State) (k : ErrCode) (latch : Latch) :
    (s.raise k latch).rxlen = s.rxlen := rfl
@[simp] theorem State.raise_resMode (s : State) (k : ErrCode) (latch : Latch) :
    (s.raise k latch).resMode = s.resMode := rfl
@[simp] theorem State.raise_resFwlen (s : State) (k : ErrCode) (latch : Latch) :
    (s.raise k latch).resFwlen = s.resFwlen := rfl
@[simp] theorem State.raise_resStrlen (s : State) (k : ErrCode) (latch : Latch) :
    (s.raise k latch).resStrlen = s.resStrlen := rfl
@[simp] theorem State.raise_resStr (s : State) (k : ErrCode) (latch : Latch) :
    (s.raise k latch).resStr = s.resStr := rfl
@[simp] theorem State.raise_resCrc (s : State) (k : ErrCode) (latch : Latch) :
    (s.raise k latch).resCrc = s.resCrc := rfl
@[simp] theorem State.raise_resRsize (s : State) (k : ErrCode) (latch : Latch) :
    (s.raise k latch).resRsize = s.resRsize := rfl
@[simp] theorem State.raise_channel (s : State) (k : ErrCode) (latch : Latch) :
    (s.raise k latch).channel = s.channel := rfl
@[simp] theorem State.raise_sent (s : State) (k : ErrCode) (latch : Latch) :
    (s.raise k latch).sent = s.sent := rfl
@[simp] theorem State.raise_writeDraws (s : State) (k : ErrCode) (latch : Latch) :
    (s.raise k latch).writeDraws = s.writeDraws := rfl
@[simp] theorem State.raise_readDraws (s : State) (k : ErrCode) (latch : Latch) :
    (s.raise k latch).readDraws = s.readDraws := rfl
@[simp] theorem State.raise_inputs (s : State) (k : ErrCode) (latch : Latch) :
    (s.raise k latch).inputs = s.inputs := rfl
@[simp] theorem State.raise_script (s : State) (k : ErrCode) (latch : Latch) :
    (s.raise k latch).script = s.script := rfl
@[simp] theorem State.raise_hostTx (s : State) (k : ErrCode) (latch : Latch) :
    (s.raise k latch).hostTx = s.hostTx := rfl
@[simp] theorem State.raise_hostRx (s : State) (k : ErrCode) (latch : Latch) :
    (s.raise k latch).hostRx = s.hostRx := rfl
@[simp] theorem State.raise_hostFw (s : State) (k : ErrCode) (latch : Latch) :
    (s.raise k latch).hostFw = s.hostFw := rfl
@[simp] theorem State.raise_hostSn (s : State) (k : ErrCode) (latch : Latch) :
    (s.raise k latch).hostSn = s.hostSn := rfl
@[simp] theorem State.raise_ret (s : State) (k : ErrCode) (latch : Latch) :
    (s.raise k latch).ret = s.ret := rfl
@[simp] theorem State.raise_result (s : State) (k : ErrCode) (latch : Latch) :
    (s.raise k latch).result = s.result := rfl

@[simp] theorem State.loadRx_opr (s : State) (bytes : List Byte) :
    (s.loadRx bytes).opr = s.opr := rfl
@[simp] theorem State.loadRx_status (s : State) (bytes : List Byte) :
    (s.loadRx bytes).status = s.status := rfl
@[simp] theorem State.loadRx_txbuf (s : State) (bytes : List Byte) :
    (s.loadRx bytes).txbuf = s.txbuf := rfl
@[simp] theorem State.loadRx_txlen (s : State) (bytes : List Byte) :
    (s.loadRx bytes).txlen = s.txlen := rfl
@[simp] theorem State.loadRx_rxbuf (s : State) (bytes : List Byte) :
    (s.loadRx bytes).rxbuf = Memory.ofBytes bytes := rfl
@[simp] theorem State.loadRx_rxlen (s : State) (bytes : List Byte) :
    (s.loadRx bytes).rxlen = BitVec.ofNat 9 bytes.length := rfl
@[simp] theorem State.loadRx_resMode (s : State) (bytes : List Byte) :
    (s.loadRx bytes).resMode = s.resMode := rfl
@[simp] theorem State.loadRx_resFwlen (s : State) (bytes : List Byte) :
    (s.loadRx bytes).resFwlen = s.resFwlen := rfl
@[simp] theorem State.loadRx_resStrlen (s : State) (bytes : List Byte) :
    (s.loadRx bytes).resStrlen = s.resStrlen := rfl
@[simp] theorem State.loadRx_resStr (s : State) (bytes : List Byte) :
    (s.loadRx bytes).resStr = s.resStr := rfl
@[simp] theorem State.loadRx_resCrc (s : State) (bytes : List Byte) :
    (s.loadRx bytes).resCrc = s.resCrc := rfl
@[simp] theorem State.loadRx_resRsize (s : State) (bytes : List Byte) :
    (s.loadRx bytes).resRsize = s.resRsize := rfl
@[simp] theorem State.loadRx_channel (s : State) (bytes : List Byte) :
    (s.loadRx bytes).channel = s.channel := rfl
@[simp] theorem State.loadRx_sent (s : State) (bytes : List Byte) :
    (s.loadRx bytes).sent = s.sent := rfl
@[simp] theorem State.loadRx_writeDraws (s : State) (bytes : List Byte) :
    (s.loadRx bytes).writeDraws = s.writeDraws := rfl
@[simp] theorem State.loadRx_readDraws (s : State) (bytes : List Byte) :
    (s.loadRx bytes).readDraws = s.readDraws := rfl
@[simp] theorem State.loadRx_inputs (s : State) (bytes : List Byte) :
    (s.loadRx bytes).inputs = s.inputs := rfl
@[simp] theorem State.loadRx_script (s : State) (bytes : List Byte) :
    (s.loadRx bytes).script = s.script := rfl
@[simp] theorem State.loadRx_hostTx (s : State) (bytes : List Byte) :
    (s.loadRx bytes).hostTx = s.hostTx := rfl
@[simp] theorem State.loadRx_hostRx (s : State) (bytes : List Byte) :
    (s.loadRx bytes).hostRx = s.hostRx := rfl
@[simp] theorem State.loadRx_hostFw (s : State) (bytes : List Byte) :
    (s.loadRx bytes).hostFw = s.hostFw := rfl
@[simp] theorem State.loadRx_hostSn (s : State) (bytes : List Byte) :
    (s.loadRx bytes).hostSn = s.hostSn := rfl
@[simp] theorem State.loadRx_ret (s : State) (bytes : List Byte) :
    (s.loadRx bytes).ret = s.ret := rfl
@[simp] theorem State.loadRx_result (s : State) (bytes : List Byte) :
    (s.loadRx bytes).result = s.result := rfl

@[simp] theorem State.writeFrame_opr (s : State) (row : RomRow) :
    (s.writeFrame row).opr = s.opr := rfl
@[simp] theorem State.writeFrame_status (s : State) (row : RomRow) :
    (s.writeFrame row).status = s.status := rfl
@[simp] theorem State.writeFrame_txbuf (s : State) (row : RomRow) :
    (s.writeFrame row).txbuf = Memory.ofBytes (row.frame.take row.flen) := rfl
@[simp] theorem State.writeFrame_txlen (s : State) (row : RomRow) :
    (s.writeFrame row).txlen = BitVec.ofNat 4 row.flen := rfl
@[simp] theorem State.writeFrame_rxbuf (s : State) (row : RomRow) :
    (s.writeFrame row).rxbuf = s.rxbuf := rfl
@[simp] theorem State.writeFrame_rxlen (s : State) (row : RomRow) :
    (s.writeFrame row).rxlen = s.rxlen := rfl
@[simp] theorem State.writeFrame_resMode (s : State) (row : RomRow) :
    (s.writeFrame row).resMode = s.resMode := rfl
@[simp] theorem State.writeFrame_resFwlen (s : State) (row : RomRow) :
    (s.writeFrame row).resFwlen = s.resFwlen := rfl
@[simp] theorem State.writeFrame_resStrlen (s : State) (row : RomRow) :
    (s.writeFrame row).resStrlen = s.resStrlen := rfl
@[simp] theorem State.writeFrame_resStr (s : State) (row : RomRow) :
    (s.writeFrame row).resStr = s.resStr := rfl
@[simp] theorem State.writeFrame_resCrc (s : State) (row : RomRow) :
    (s.writeFrame row).resCrc = s.resCrc := rfl
@[simp] theorem State.writeFrame_resRsize (s : State) (row : RomRow) :
    (s.writeFrame row).resRsize = s.resRsize := rfl
@[simp] theorem State.writeFrame_channel (s : State) (row : RomRow) :
    (s.writeFrame row).channel = s.channel := rfl
@[simp] theorem State.writeFrame_sent (s : State) (row : RomRow) :
    (s.writeFrame row).sent = s.sent := rfl
@[simp] theorem State.writeFrame_writeDraws (s : State) (row : RomRow) :
    (s.writeFrame row).writeDraws = s.writeDraws := rfl
@[simp] theorem State.writeFrame_readDraws (s : State) (row : RomRow) :
    (s.writeFrame row).readDraws = s.readDraws := rfl
@[simp] theorem State.writeFrame_inputs (s : State) (row : RomRow) :
    (s.writeFrame row).inputs = s.inputs := rfl
@[simp] theorem State.writeFrame_script (s : State) (row : RomRow) :
    (s.writeFrame row).script = s.script := rfl
@[simp] theorem State.writeFrame_hostTx (s : State) (row : RomRow) :
    (s.writeFrame row).hostTx = s.hostTx := rfl
@[simp] theorem State.writeFrame_hostRx (s : State) (row : RomRow) :
    (s.writeFrame row).hostRx = s.hostRx := rfl
@[simp] theorem State.writeFrame_hostFw (s : State) (row : RomRow) :
    (s.writeFrame row).hostFw = s.hostFw := rfl
@[simp] theorem State.writeFrame_hostSn (s : State) (row : RomRow) :
    (s.writeFrame row).hostSn = s.hostSn := rfl
@[simp] theorem State.writeFrame_ret (s : State) (row : RomRow) :
    (s.writeFrame row).ret = s.ret := rfl
@[simp] theorem State.writeFrame_result (s : State) (row : RomRow) :
    (s.writeFrame row).result = s.result := rfl

@[simp] theorem State.resetFcb_opr (s : State) :
    (s.resetFcb).opr = 0x00 := rfl
@[simp] theorem State.resetFcb_status (s : State) :
    (s.resetFcb).status = 0x00 := rfl
@[simp] theorem State.resetFcb_txbuf (s : State) :
    (s.resetFcb).txbuf = [] := rfl
@[simp] theorem State.resetFcb_txlen (s : State) :
    (s.resetFcb).txlen = 0 := rfl
@[simp] theorem State.resetFcb_rxbuf (s : State) :
    (s.resetFcb).rxbuf = [] := rfl
@[simp] theorem State.resetFcb_rxlen (s : State) :
    (s.resetFcb).rxlen = 0 := rfl
@[simp] theorem State.resetFcb_resMode (s : State) :
    (s.resetFcb).resMode = none := rfl
@[simp] theorem State.resetFcb_resFwlen (s : State) :
    (s.resetFcb).resFwlen = none := rfl
@[simp] theorem State.resetFcb_resStrlen (s : State) :
    (s.resetFcb).resStrlen = none := rfl
@[simp] theorem State.resetFcb_resStr (s : State) :
    (s.resetFcb).resStr = none := rfl
@[simp] theorem State.resetFcb_resCrc (s : State) :
    (s.resetFcb).resCrc = none := rfl
@[simp] theorem State.resetFcb_resRsize (s : State) :
    (s.resetFcb).resRsize = none := rfl
@[simp] theorem State.resetFcb_channel (s : State) :
    (s.resetFcb).channel = s.channel := rfl
@[simp] theorem State.resetFcb_sent (s : State) :
    (s.resetFcb).sent = s.sent := rfl
@[simp] theorem State.resetFcb_writeDraws (s : State) :
    (s.resetFcb).writeDraws = s.writeDraws := rfl
@[simp] theorem State.resetFcb_readDraws (s : State) :
    (s.resetFcb).readDraws = s.readDraws := rfl
@[simp] theorem State.resetFcb_inputs (s : State) :
    (s.resetFcb).inputs = s.inputs := rfl
@[simp] theorem State.resetFcb_script (s : State) :
    (s.resetFcb).script = s.script := rfl
@[simp] theorem State.resetFcb_hostTx (s : State) :
    (s.resetFcb).hostTx = s.hostTx := rfl
@[simp] theorem State.resetFcb_hostRx (s : State) :
    (s.resetFcb).hostRx = s.hostRx := rfl
@[simp] theorem State.resetFcb_hostFw (s : State) :
    (s.resetFcb).hostFw = s.hostFw := rfl
@[simp] theorem State.resetFcb_hostSn (s : State) :
    (s.resetFcb).hostSn = s.hostSn := rfl
@[simp] theorem State.resetFcb_ret (s : State) :
    (s.resetFcb).ret = s.ret := rfl
@[simp] theorem State.resetFcb_result (s : State) :
    (s.resetFcb).result = s.result := rfl

@[simp] theorem State.endExchange_opr (s : State) (r : ExchangeResult) :
    (s.endExchange r).opr = s.opr := rfl
@[simp] theorem State.endExchange_status (s : State) (r : ExchangeResult) :
    (s.endExchange r).status = s.status := rfl
@[simp] theorem State.endExchange_txbuf (s : State) (r : ExchangeResult) :
    (s.endExchange r).txbuf = s.txbuf := rfl
@[simp] theorem State.endExchange_txlen (s : State) (r : ExchangeResult) :
    (s.endExchange r).txlen = s.txlen := rfl
@[simp] theorem State.endExchange_rxbuf (s : State) (r : ExchangeResult) :
    (s.endExchange r).rxbuf = s.rxbuf := rfl
@[simp] theorem State.endExchange_rxlen (s : State) (r : ExchangeResult) :
    (s.endExchange r).rxlen = s.rxlen := rfl
@[simp] theorem State.endExchange_resMode (s : State) (r : ExchangeResult) :
    (s.endExchange r).resMode = s.resMode := rfl
@[simp] theorem State.endExchange_resFwlen (s : State) (r : ExchangeResult) :
    (s.endExchange r).resFwlen = s.resFwlen := rfl
@[simp] theorem State.endExchange_resStrlen (s : State) (r : ExchangeResult) :
    (s.endExchange r).resStrlen = s.resStrlen := rfl
@[simp] theorem State.endExchange_resStr (s : State) (r : ExchangeResult) :
    (s.endExchange r).resStr = s.resStr := rfl
@[simp] theorem State.endExchange_resCrc (s : State) (r : ExchangeResult) :
    (s.endExchange r).resCrc = s.resCrc := rfl
@[simp] theorem State.endExchange_resRsize (s : State) (r : ExchangeResult) :
    (s.endExchange r).resRsize = s.resRsize := rfl
@[simp] theorem State.endExchange_channel (s : State) (r : ExchangeResult) :
    (s.endExchange r).channel = s.channel := rfl
@[simp] theorem State.endExchange_sent (s : State) (r : ExchangeResult) :
    (s.endExchange r).sent = s.sent := rfl
@[simp] theorem State.endExchange_writeDraws (s : State) (r : ExchangeResult) :
    (s.endExchange r).writeDraws = s.writeDraws := rfl
@[simp] theorem State.endExchange_readDraws (s : State) (r : ExchangeResult) :
    (s.endExchange r).readDraws = s.readDraws := rfl
@[simp] theorem State.endExchange_inputs (s : State) (r : ExchangeResult) :
    (s.endExchange r).inputs = s.inputs := rfl
@[simp] theorem State.endExchange_script (s : State) (r : ExchangeResult) :
    (s.endExchange r).script = [] := rfl
@[simp] theorem State.endExchange_hostTx (s : State) (r : ExchangeResult) :
    (s.endExchange r).hostTx = s.hostTx := rfl
@[simp] theorem State.endExchange_hostRx (s : State) (r : ExchangeResult) :
    (s.endExchange r).hostRx = s.hostRx := rfl
@[simp] theorem State.endExchange_hostFw (s : State) (r : ExchangeResult) :
    (s.endExchange r).hostFw = s.hostFw := rfl
@[simp] theorem State.endExchange_hostSn (s : State) (r : ExchangeResult) :
    (s.endExchange r).hostSn = s.hostSn := rfl
@[simp] theorem State.endExchange_ret (s : State) (r : ExchangeResult) :
    (s.endExchange r).ret = s.ret := rfl
@[simp] theorem State.endExchange_result (s : State) (r : ExchangeResult) :
    (s.endExchange r).result = some r := rfl

@[simp] theorem State.startExchange_opr (s : State) (e : Exchange) :
    (s.startExchange e).opr = s.opr := rfl
@[simp] theorem State.startExchange_status (s : State) (e : Exchange) :
    (s.startExchange e).status = s.status := rfl
@[simp] theorem State.startExchange_txbuf (s : State) (e : Exchange) :
    (s.startExchange e).txbuf = s.txbuf := rfl
@[simp] theorem State.startExchange_txlen (s : State) (e : Exchange) :
    (s.startExchange e).txlen = s.txlen := rfl
@[simp] theorem State.startExchange_rxbuf (s : State) (e : Exchange) :
    (s.startExchange e).rxbuf = s.rxbuf := rfl
@[simp] theorem State.startExchange_rxlen (s : State) (e : Exchange) :
    (s.startExchange e).rxlen = s.rxlen := rfl
@[simp] theorem State.startExchange_resMode (s : State) (e : Exchange) :
    (s.startExchange e).resMode = s.resMode := rfl
@[simp] theorem State.startExchange_resFwlen (s : State) (e : Exchange) :
    (s.startExchange e).resFwlen = s.resFwlen := rfl
@[simp] theorem State.startExchange_resStrlen (s : State) (e : Exchange) :
    (s.startExchange e).resStrlen = s.resStrlen := rfl
@[simp] theorem State.startExchange_resStr (s : State) (e : Exchange) :
    (s.startExchange e).resStr = s.resStr := rfl
@[simp] theorem State.startExchange_resCrc (s : State) (e : Exchange) :
    (s.startExchange e).resCrc = s.resCrc := rfl
@[simp] theorem State.startExchange_resRsize (s : State) (e : Exchange) :
    (s.startExchange e).resRsize = s.resRsize := rfl
@[simp] theorem State.startExchange_channel (s : State) (e : Exchange) :
    (s.startExchange e).channel = s.channel := rfl
@[simp] theorem State.startExchange_sent (s : State) (e : Exchange) :
    (s.startExchange e).sent = s.sent := rfl
@[simp] theorem State.startExchange_writeDraws (s : State) (e : Exchange) :
    (s.startExchange e).writeDraws = s.writeDraws := rfl
@[simp] theorem State.startExchange_readDraws (s : State) (e : Exchange) :
    (s.startExchange e).readDraws = s.readDraws := rfl
@[simp] theorem State.startExchange_inputs (s : State) (e : Exchange) :
    (s.startExchange e).inputs = s.inputs := rfl
@[simp] theorem State.startExchange_script (s : State) (e : Exchange) :
    (s.startExchange e).script = e.lines := rfl
@[simp] theorem State.startExchange_hostTx (s : State) (e : Exchange) :
    (s.startExchange e).hostTx = s.hostTx := rfl
@[simp] theorem State.startExchange_hostRx (s : State) (e : Exchange) :
    (s.startExchange e).hostRx = s.hostRx := rfl
@[simp] theorem State.startExchange_hostFw (s : State) (e : Exchange) :
    (s.startExchange e).hostFw = s.hostFw := rfl
@[simp] theorem State.startExchange_hostSn (s : State) (e : Exchange) :
    (s.startExchange e).hostSn = s.hostSn := rfl
@[simp] theorem State.startExchange_ret (s : State) (e : Exchange) :
    (s.startExchange e).ret = s.ret := rfl
@[simp] theorem State.startExchange_result (s : State) (e : Exchange) :
    (s.startExchange e).result = none := rfl

end Sys2Proof.Machine
end

