-- ==== Sys2Proof/Laws/Status.lean ====
section
/-! SUPPORT. The fields of the STATUS word the operations write (spec/10_state.md R22). -/

namespace Sys2Proof.Machine

@[simp] theorem statusErr_statusWord (e : ErrCode) (v c f : Bool) : statusErr (statusWord e v c f) = e.code := by
  cases e <;> cases v <;> cases c <;> cases f <;> rfl

@[simp] theorem statusValid_statusWord (e : ErrCode) (v c f : Bool) : statusValid (statusWord e v c f) = v := by
  cases e <;> cases v <;> cases c <;> cases f <;> rfl

@[simp] theorem statusCrcOk_statusWord (e : ErrCode) (v c f : Bool) : statusCrcOk (statusWord e v c f) = c := by
  cases e <;> cases v <;> cases c <;> cases f <;> rfl

@[simp] theorem statusFwlenValid_statusWord (e : ErrCode) (v c f : Bool) :
    statusFwlenValid (statusWord e v c f) = f := by
  cases e <;> cases v <;> cases c <;> cases f <;> rfl

/-- Bit 7 is hardwired to 0 (spec/10_state.md R27). -/
theorem statusWord_bit7 (e : ErrCode) (v c f : Bool) : (statusWord e v c f).getLsbD 7 = false := by
  cases e <;> cases v <;> cases c <;> cases f <;> rfl

/-- Bit 7 is hardwired to 0, in the form simp gives the read of a bit (spec/10_state.md R27). -/
@[simp] theorem statusWord_getElem7 (e : ErrCode) (v c f : Bool) : (statusWord e v c f)[7] = false :=
  statusWord_bit7 e v c f

/-- The codes the FCB writes are 0 to 4 (spec/10_state.md R23). -/
theorem ErrCode.code_le {e : ErrCode} (h₁ : e ≠ .encoding) (h₂ : e ≠ .transport) : e.code.toNat ≤ 4 := by
  cases e <;> first | decide | contradiction

@[simp] theorem Latch.apply_clear (b : Bool) : Latch.clear.apply b = false := rfl
@[simp] theorem Latch.apply_keep (b : Bool) : Latch.keep.apply b = b := rfl
@[simp] theorem Latch.apply_set (b : Bool) : Latch.set.apply b = true := rfl

/-- Keeping FWLEN_VALID is keeping bit 6 of the old word (spec/10_state.md R22, R26). -/
theorem statusWord_keep (e : ErrCode) (v c : Bool) (x : Byte) :
    statusWord e v c (statusFwlenValid x) = (x &&& 0x40#8) ||| statusWord e v c false := by
  have h : ∀ x : Byte, (x &&& 0x40#8) = bif statusFwlenValid x then 0x40#8 else 0x00#8 := by decide
  rw [h]
  cases statusFwlenValid x <;> cases e <;> cases v <;> cases c <;> rfl

/-! The two ends of an operation, by what it does to the latch. -/

theorem State.raise_clear (s : State) (k : ErrCode) :
    s.raise k .clear = { s with status := statusWord k false false false } := rfl

theorem State.raise_keep (s : State) (k : ErrCode) :
    s.raise k .keep = { s with status := (s.status &&& 0x40#8) ||| statusWord k false false false } := by
  rw [← statusWord_keep]; rfl

theorem State.succeed_clear (s : State) (c : Bool) :
    s.succeed c .clear = { s with status := statusWord .none true c false } := rfl

theorem State.succeed_keep (s : State) (c : Bool) :
    s.succeed c .keep = { s with status := (s.status &&& 0x40#8) ||| statusWord .none true c false } := by
  rw [← statusWord_keep]; rfl

theorem State.succeed_set (s : State) (c : Bool) :
    s.succeed c .set = { s with status := statusWord .none true c true } := rfl

@[simp] theorem State.fwlenValid_beginOp (s : State) (op : Byte) : (s.beginOp op).fwlenValid = s.fwlenValid := rfl

end Sys2Proof.Machine
end

