-- ==== Sys2Proof/Laws/Store.lean ====
section
/-! SUPPORT. The laws of the byte-indexed stores: what a read after a whole-sequence write gives, and that the
write leaves the canonical form. -/

namespace Sys2Proof.Machine

theorem cellsFrom_lookup (bytes : List Byte) (k i : Nat) :
    (cellsFrom k bytes).lookup (k + i) = bytes[i]? := by
  induction bytes generalizing k i with
  | nil => rfl
  | cons b t ih =>
    cases i with
    | zero => simp [cellsFrom]
    | succ j =>
      have hne : (k + (j + 1) == k) = false := by simp
      have hk : k + (j + 1) = k + 1 + j := by omega
      rw [cellsFrom, List.lookup_cons, hne, hk]
      simpa using ih (k + 1) j

/-- A read after a whole-sequence write gives the byte written there, and NOVALUE past the end. -/
@[simp] theorem Memory.read_ofBytes (bytes : List Byte) (i : Nat) :
    (Memory.ofBytes bytes).read i = bytes[i]? := by
  simpa [Memory.read, Memory.ofBytes] using cellsFrom_lookup bytes 0 i

theorem cellsFrom_indices (bytes : List Byte) (k : Nat) :
    (cellsFrom k bytes).map Prod.fst = List.range' k bytes.length := by
  induction bytes generalizing k with
  | nil => rfl
  | cons b t ih => simp [cellsFrom, List.range'_succ, ih]

theorem cellsFrom_bytes (bytes : List Byte) (k : Nat) : (cellsFrom k bytes).map Prod.snd = bytes := by
  induction bytes generalizing k with
  | nil => rfl
  | cons b t ih => simp [cellsFrom, ih]

/-- A whole-sequence write fills exactly the indices of the sequence. -/
theorem Memory.ofBytes_filled (bytes : List Byte) : (Memory.ofBytes bytes).filled bytes.length := by
  rw [Memory.filled, Memory.ofBytes, cellsFrom_indices, List.range_eq_range']

/-- A filled store is in canonical form. -/
theorem Memory.filled.wf {m : Memory} {n : Nat} (h : m.filled n) : m.wf := by
  have : (m.map Prod.fst).Pairwise (· < ·) := by
    rw [h]
    exact List.pairwise_lt_range
  simpa [Memory.wf, List.pairwise_map] using this

/-- A whole-sequence write leaves the canonical form. -/
theorem Memory.ofBytes_wf (bytes : List Byte) : (Memory.ofBytes bytes).wf :=
  (Memory.ofBytes_filled bytes).wf

/-- The stores of the reset state are in canonical form. -/
theorem State.reset_stores_wf : State.reset.txbuf.wf ∧ State.reset.rxbuf.wf := by
  constructor <;> exact List.Pairwise.nil

/-- RX.LOAD leaves RXBUF in canonical form and does not touch TXBUF. -/
theorem State.loadRx_stores_wf (s : State) (bytes : List Byte) (h : s.txbuf.wf) :
    (s.loadRx bytes).txbuf.wf ∧ (s.loadRx bytes).rxbuf.wf :=
  ⟨h, Memory.ofBytes_wf bytes⟩

/-- A frame write leaves TXBUF in canonical form and does not touch RXBUF. -/
theorem State.writeFrame_stores_wf (s : State) (row : RomRow) (h : s.rxbuf.wf) :
    (s.writeFrame row).txbuf.wf ∧ (s.writeFrame row).rxbuf.wf :=
  ⟨Memory.ofBytes_wf _, h⟩

theorem cells_eq_of_indices (m : Memory) (k n : Nat) (h : m.map Prod.fst = List.range' k n) :
    m = cellsFrom k (m.map Prod.snd) := by
  induction m generalizing k n with
  | nil => rfl
  | cons c t ih =>
    cases n with
    | zero => simp at h
    | succ j =>
      rw [List.range'_succ, List.map_cons, List.cons.injEq] at h
      rw [List.map_cons, cellsFrom, ← ih (k + 1) j h.2, ← h.1]

/-- A filled store is what writing its bytes leaves. -/
theorem Memory.filled.eq_ofBytes {m : Memory} {n : Nat} (h : m.filled n) :
    m = Memory.ofBytes (m.map Prod.snd) := by
  rw [Memory.filled, List.range_eq_range'] at h
  exact cells_eq_of_indices m 0 n h

/-- A filled store has as many cells as indices. -/
theorem Memory.filled.length {m : Memory} {n : Nat} (h : m.filled n) : (m.map Prod.snd).length = n := by
  have := congrArg List.length h
  simpa using this

theorem allValues_map_some (bytes : List Byte) : allValues (bytes.map some) = some bytes := by
  induction bytes with
  | nil => rfl
  | cons b t ih => simp [allValues, ih]

/-- A slice has a value exactly when each of its bytes has. -/
theorem allValues_eq_some {l : List (Option Byte)} {bytes : List Byte} :
    allValues l = some bytes ↔ l = bytes.map some := by
  constructor
  · intro h
    induction l generalizing bytes with
    | nil => simp_all [allValues]
    | cons o t ih =>
      cases o with
      | none => simp [allValues] at h
      | some b =>
        cases ht : allValues t with
        | none => simp [allValues, ht] at h
        | some s =>
          simp only [allValues, ht, Option.some.injEq] at h
          subst h
          simp [ih ht]
  · rintro rfl
    exact allValues_map_some bytes

theorem getElem?_slice (bytes : List Byte) (a n : Nat) (h : a + n ≤ bytes.length) :
    (List.range' a n).map (fun i => bytes[i]?) = ((bytes.drop a).take n).map some := by
  apply List.ext_getElem?
  intro i
  simp only [List.getElem?_map, List.getElem?_take, List.getElem?_drop]
  by_cases hi : i < n
  · rw [List.getElem?_range' hi]
    have : a + i < bytes.length := by omega
    simp [hi, this]
  · simp [hi]

/-- The bytes of RXBUF one by one, when it holds a sequence. -/
theorem State.rxByte_of_holds {s : State} {bytes : List Byte} (hb : s.rxbuf = Memory.ofBytes bytes)
    (hl : s.rxlen.toNat = bytes.length) (i : Nat) : s.rxByte i = bytes[i]? := by
  rw [State.rxByte, hb, Memory.read_ofBytes, hl]
  split
  · rfl
  · exact (List.getElem?_eq_none (by omega)).symm

/-- A slice of RXBUF, when it holds a sequence long enough. -/
theorem State.rxSlice_of_holds {s : State} {bytes : List Byte} (hb : s.rxbuf = Memory.ofBytes bytes)
    (hl : s.rxlen.toNat = bytes.length) {a n : Nat} (h : a + n ≤ bytes.length) :
    s.rxSlice a n = some ((bytes.drop a).take n) := by
  have hf : s.rxByte = fun i => bytes[i]? := funext fun i => State.rxByte_of_holds hb hl i
  rw [State.rxSlice, hf, getElem?_slice bytes a n h, allValues_map_some]

/-- TX.READ's bytes, when TXBUF holds a sequence. -/
theorem State.txSlice_of_holds {s : State} {bytes : List Byte} (hb : s.txbuf = Memory.ofBytes bytes)
    (hl : s.txlen.toNat = bytes.length) : s.txSlice = some bytes := by
  have hf : s.txByte = fun i => bytes[i]? := by
    funext i
    rw [State.txByte, hb, Memory.read_ofBytes, hl]
    split
    · rfl
    · exact (List.getElem?_eq_none (by omega)).symm
  rw [State.txSlice, hf, hl, getElem?_slice bytes 0 bytes.length (by omega), allValues_map_some]
  simp

end Sys2Proof.Machine
end

