-- ==== Sys2Proof/Laws/Rom.lean ====
section
/-! SUPPORT. The laws of the command lookup table, and everything ENC_COMMON does. -/

namespace Sys2Proof.Machine

theorem romRead_frame_length (row : Fin 9) : (romRead row).frame.length = (romRead row).flen := by
  fin_cases row <;> rfl

theorem romRead_flen_le (row : Fin 9) : (romRead row).flen ≤ Config.txCap := by
  fin_cases row <;> decide

@[simp] theorem romRead_frame_take (row : Fin 9) :
    (romRead row).frame.take (romRead row).flen = (romRead row).frame :=
  List.take_of_length_le (romRead_frame_length row).le

/-- TXLEN's four bits hold any row's FLEN (spec/10_state.md R28). -/
theorem romRead_flen_toNat (row : Fin 9) : (BitVec.ofNat 4 (romRead row).flen).toNat = (romRead row).frame.length := by
  fin_cases row <;> rfl

theorem romRead_rsize_le (row : Fin 9) : (romRead row).rsize.toNat ≤ 257 := by
  fin_cases row <;> decide

/-- Everything ENC_COMMON writes (spec/40_encoder.md R100). -/
theorem encCommon_eq (op : Byte) (row : Fin 9) (s : State) :
    encCommon op row s =
      { s with
        opr := op, status := statusWord .none true false false, txbuf := Memory.ofBytes (romRead row).frame
        txlen := BitVec.ofNat 4 (romRead row).flen, resMode := none, resStrlen := none, resStr := none
        resCrc := none, resRsize := some (romRead row).rsize } := by
  simp only [encCommon, State.writeFrame, State.succeed, State.setStatus, State.beginOp, Latch.apply_clear,
    romRead_frame_take]

end Sys2Proof.Machine
end

