-- ==== Sys2Proof/Laws/Exec.lean ====
section
/-! SUPPORT. Once for each shared operation, everything it can do: the cases of a next state, cited instead of
unfolding the operation. -/

namespace Sys2Proof.Machine

/-- Everything DEC.ANC's pseudocode can answer (spec/41_decoder.md R131). -/
theorem decodeAnc_next {s t : State} (h : decodeAnc s = .next t) :
    (s.rxlen.toNat ≠ 16 ∧ t = s.raise .frameLength .clear) ∨
    (s.rxlen.toNat = 16 ∧ ∃ c, s.rxByte 9 = some c ∧ modeOf c = none ∧ t = s.raise .invalidResponse .clear) ∨
    (s.rxlen.toNat = 16 ∧ ∃ c m, s.rxByte 9 = some c ∧ modeOf c = some m ∧
      t = { s with resMode := some (c.extractLsb' 0 3) }.succeed false .clear) := by
  unfold decodeAnc at h
  split at h
  · next hl =>
    split at h
    · cases h
    · next c hc =>
      split at h
      · next hm => exact .inr (.inl ⟨hl, c, hc, hm, (Host.Outcome.next.inj h).symm⟩)
      · next m hm => exact .inr (.inr ⟨hl, c, m, hc, hm, (Host.Outcome.next.inj h).symm⟩)
  · next hl => exact .inl ⟨hl, (Host.Outcome.next.inj h).symm⟩

/-- Everything DEC.FWLEN's pseudocode can answer (spec/41_decoder.md R132). -/
theorem decodeFwlen_next {s t : State} (h : decodeFwlen s = .next t) :
    (s.rxlen.toNat ≠ 8 ∧ t = s.raise .frameLength .clear) ∨
    (s.rxlen.toNat = 8 ∧ ∃ n, s.rxByte 5 = some n ∧
      t = { s with resFwlen := some n, resRsize := some (BitVec.ofNat 9 (n.toNat + 2)) }.succeed false .set) := by
  unfold decodeFwlen at h
  split at h
  · next hl =>
    split at h
    · cases h
    · next n hn => exact .inr ⟨hl, n, hn, (Host.Outcome.next.inj h).symm⟩
  · next hl => exact .inl ⟨hl, (Host.Outcome.next.inj h).symm⟩

/-- Everything DEC.FWSTR's pseudocode can answer (spec/41_decoder.md R133). -/
theorem decodeFwstr_next {s t : State} (h : decodeFwstr s = .next t) :
    (s.fwlenValid = false ∧ t = s.raise .sequence .clear) ∨
    (s.fwlenValid = true ∧ ∃ n, s.resFwlen = some n ∧ s.rxlen.toNat ≠ n.toNat + 2 ∧
      t = s.raise .frameLength .clear) ∨
    (s.fwlenValid = true ∧ ∃ n str, s.resFwlen = some n ∧ s.rxlen.toNat = n.toNat + 2 ∧
      s.rxSlice 0 n.toNat = some str ∧
      t = { s with resStr := some str, resStrlen := some n }.succeed false .clear) := by
  unfold decodeFwstr at h
  split at h
  · next hv =>
    split at h
    · cases h
    · next n hn =>
      split at h
      · next hl =>
        split at h
        · cases h
        · next str hs => exact .inr (.inr ⟨hv, n, str, hn, hl, hs, (Host.Outcome.next.inj h).symm⟩)
      · next hl => exact .inr (.inl ⟨hv, n, hn, hl, (Host.Outcome.next.inj h).symm⟩)
  · next hv => exact .inl ⟨by simpa using hv, (Host.Outcome.next.inj h).symm⟩

/-- Everything DEC.SER's pseudocode can answer (spec/41_decoder.md R134). -/
theorem decodeSer_next {s t : State} (h : decodeSer s = .next t) :
    (s.rxlen.toNat ≠ 47 ∧ t = s.raise .frameLength .clear) ∨
    (s.rxlen.toNat = 47 ∧ ∃ str, s.rxSlice 31 16 = some str ∧
      t = { s with resStr := some str, resStrlen := some 16 }.succeed false .clear) := by
  unfold decodeSer at h
  split at h
  · next hl =>
    split at h
    · cases h
    · next str hs => exact .inr ⟨hl, str, hs, (Host.Outcome.next.inj h).symm⟩
  · next hl => exact .inl ⟨hl, (Host.Outcome.next.inj h).symm⟩

/-- Everything CHK.GEN's pseudocode can answer (spec/42_checksum.md R164). -/
theorem checksumGen_next {s t : State} (h : checksumGen s = .next t) :
    ∃ bytes, s.rxSlice 0 s.rxlen.toNat = some bytes ∧
      t = { s with resCrc := some (crc16 bytes) }.succeed false .keep := by
  unfold checksumGen at h
  split at h
  · cases h
  · next bytes hb => exact ⟨bytes, hb, (Host.Outcome.next.inj h).symm⟩

/-- Everything CHK.VAL's pseudocode can answer (spec/42_checksum.md R165). -/
theorem checksumVal_next {s t : State} (h : checksumVal s = .next t) :
    (s.rxlen.toNat < 2 ∧ t = s.raise .frameLength .keep) ∨
    (2 ≤ s.rxlen.toNat ∧ ∃ body lo hi, s.rxSlice 0 (s.rxlen.toNat - 2) = some body ∧
      s.rxByte (s.rxlen.toNat - 2) = some lo ∧ s.rxByte (s.rxlen.toNat - 1) = some hi ∧
      t = { s with resCrc := some (crc16 body) }.succeed (crc16 body == fromLowFirst lo hi) .keep) := by
  unfold checksumVal at h
  split at h
  · next hl =>
    split at h
    · next body lo hi hb hlo hhi => exact .inr ⟨hl, body, lo, hi, hb, hlo, hhi, (Host.Outcome.next.inj h).symm⟩
    · cases h
  · next hl => exact .inl ⟨by omega, (Host.Outcome.next.inj h).symm⟩

/-! The same operations the other way round: what each answers in each of its cases. -/

theorem decodeAnc_of_wrong_length {s : State} (h : s.rxlen.toNat ≠ 16) :
    decodeAnc s = .next (s.raise .frameLength .clear) := by
  simp [decodeAnc, ancStatusSize, h]

theorem decodeAnc_of_no_mode {s : State} {c : Byte} (h : s.rxlen.toNat = 16) (hc : s.rxByte 9 = some c)
    (hm : modeOf c = none) : decodeAnc s = .next (s.raise .invalidResponse .clear) := by
  simp [decodeAnc, ancStatusSize, ancCodeOffset, h, hc, hm]

theorem decodeAnc_of_mode {s : State} {c : Byte} {m : AncMode} (h : s.rxlen.toNat = 16) (hc : s.rxByte 9 = some c)
    (hm : modeOf c = some m) :
    decodeAnc s = .next ({ s with resMode := some (c.extractLsb' 0 3) }.succeed false .clear) := by
  simp [decodeAnc, ancStatusSize, ancCodeOffset, h, hc, hm]

theorem decodeFwlen_of_wrong_length {s : State} (h : s.rxlen.toNat ≠ 8) :
    decodeFwlen s = .next (s.raise .frameLength .clear) := by
  simp [decodeFwlen, fwStage1Size, h]

theorem decodeFwlen_of_byte {s : State} {n : Byte} (h : s.rxlen.toNat = 8) (hn : s.rxByte 5 = some n) :
    decodeFwlen s = .next
      ({ s with resFwlen := some n, resRsize := some (BitVec.ofNat 9 (n.toNat + 2)) }.succeed false .set) := by
  simp [decodeFwlen, fwStage1Size, fwLengthOffset, fwStage2Size, h, hn]

theorem decodeFwstr_of_no_latch {s : State} (h : s.fwlenValid = false) :
    decodeFwstr s = .next (s.raise .sequence .clear) := by
  simp [decodeFwstr, h]

theorem decodeFwstr_of_wrong_length {s : State} {n : Byte} (h : s.fwlenValid = true) (hn : s.resFwlen = some n)
    (hl : s.rxlen.toNat ≠ n.toNat + 2) : decodeFwstr s = .next (s.raise .frameLength .clear) := by
  simp [decodeFwstr, fwStage2Size, h, hn, hl]

theorem decodeFwstr_of_bytes {s : State} {n : Byte} {str : List Byte} (h : s.fwlenValid = true)
    (hn : s.resFwlen = some n) (hl : s.rxlen.toNat = n.toNat + 2) (hs : s.rxSlice 0 n.toNat = some str) :
    decodeFwstr s = .next ({ s with resStr := some str, resStrlen := some n }.succeed false .clear) := by
  simp [decodeFwstr, fwStage2Size, h, hn, hl, hs]

theorem decodeSer_of_wrong_length {s : State} (h : s.rxlen.toNat ≠ 47) :
    decodeSer s = .next (s.raise .frameLength .clear) := by
  simp [decodeSer, serialSize, h]

theorem decodeSer_of_bytes {s : State} {str : List Byte} (h : s.rxlen.toNat = 47)
    (hs : s.rxSlice 31 16 = some str) :
    decodeSer s = .next ({ s with resStr := some str, resStrlen := some 16 }.succeed false .clear) := by
  simp [decodeSer, serialSize, serialOffset, serialLength, h, hs]

theorem checksumGen_of_bytes {s : State} {bytes : List Byte} (h : s.rxSlice 0 s.rxlen.toNat = some bytes) :
    checksumGen s = .next ({ s with resCrc := some (crc16 bytes) }.succeed false .keep) := by
  simp [checksumGen, h]

theorem checksumVal_of_wrong_length {s : State} (h : s.rxlen.toNat < 2) :
    checksumVal s = .next (s.raise .frameLength .keep) := by
  simp [checksumVal, show ¬ 2 ≤ s.rxlen.toNat by omega]

theorem checksumVal_of_bytes {s : State} {body : List Byte} {lo hi : Byte} (h : 2 ≤ s.rxlen.toNat)
    (hb : s.rxSlice 0 (s.rxlen.toNat - 2) = some body) (hlo : s.rxByte (s.rxlen.toNat - 2) = some lo)
    (hhi : s.rxByte (s.rxlen.toNat - 1) = some hi) :
    checksumVal s = .next ({ s with resCrc := some (crc16 body) }.succeed
      (crc16 body == fromLowFirst lo hi) .keep) := by
  simp [checksumVal, h, hb, hlo, hhi]

/-! Reads and lengths do not change at the start of an operation. -/

@[simp] theorem State.beginOp_rxByte (s : State) (op : Byte) (i : Nat) : (s.beginOp op).rxByte i = s.rxByte i := rfl

@[simp] theorem State.beginOp_rxSlice (s : State) (op : Byte) (a n : Nat) :
    (s.beginOp op).rxSlice a n = s.rxSlice a n := rfl

/-- ISSUE either runs the decoded operation or raises ILLEGAL_OP (spec/60_exceptions.md R205, R218). -/
theorem issueWord_eq (op : Byte) (s : State) :
    issueWord op s = match decodeWord op with
      | some i => exec i s
      | none => .next (illegalOp op s) := by
  simp only [issueWord, decode]
  cases decodeWord op <;> rfl

/-- Every word is reserved and has no operation, or is the word of exactly one (spec/30_encoding.md R74, R75). -/
theorem decodeWord_cases (op : Byte) :
    (reservedWord op = true ∧ decodeWord op = none) ∨
    (reservedWord op = false ∧ ∃ i, decodeWord op = some i ∧ encodeWord i = op) := by
  have h : ∀ w : Byte, (reservedWord w = true ∧ decodeWord w = none) ∨
      (reservedWord w = false ∧ (decodeWord w).map encodeWord = some w) := by decide
  rcases h op with h | ⟨hr, hd⟩
  · exact .inl h
  · cases hi : decodeWord op with
    | none => simp [hi] at hd
    | some i => exact .inr ⟨hr, i, rfl, by simpa [hi] using hd⟩

@[simp] theorem decodeWord_encodeWord (i : Instr) : decodeWord (encodeWord i) = some i := by cases i <;> rfl

/-- What the decoder reads from one byte (spec/30_encoding.md R70). -/
theorem decode_singleton_eq_ok {op : Byte} {i : Instr} : decode [op] = .ok (i, []) ↔ decodeWord op = some i := by
  simp only [decode]
  cases decodeWord op <;> simp

/-- Everything ISSUE can answer when it goes on (spec/60_exceptions.md R205, R218). -/
theorem issueWord_next {op : Byte} {s t : State} (h : issueWord op s = .next t) :
    (reservedWord op = true ∧ decodeWord op = none ∧ t = illegalOp op s) ∨
    ∃ i, op = encodeWord i ∧ reservedWord op = false ∧ exec i s = .next t := by
  rw [issueWord_eq] at h
  rcases decodeWord_cases op with ⟨hr, hd⟩ | ⟨hr, i, hd, rfl⟩
  · rw [hd] at h
    cases h
    exact .inl ⟨hr, hd, rfl⟩
  · rw [hd] at h
    exact .inr ⟨i, rfl, hr, h⟩

/-- Everything a CH.WRITE can do (spec/60_exceptions.md R219, R222). -/
theorem State.channelWrite_cases (s : State) (bytes : List Byte) :
    (s.channel = .absent ∧ s.channelWrite bytes = .refused .channelAbsent) ∨
    (s.channel = .dead ∧ s.channelWrite bytes = .refused .channelDead) ∨
    (s.channel = .connected ∧ s.writeDraws = [] ∧ s.channelWrite bytes = .waiting) ∨
    (s.channel = .connected ∧ ∃ rest, s.writeDraws = .ok :: rest ∧
      s.channelWrite bytes = .done [] { s with sent := s.sent ++ bytes, writeDraws := rest }) ∨
    (s.channel = .connected ∧ ∃ rest, s.writeDraws = .ioError :: rest ∧
      s.channelWrite bytes = .failed { s with channel := .dead, writeDraws := rest }) := by
  unfold State.channelWrite
  cases s.channel <;> simp
  rcases s.writeDraws with _ | ⟨_ | _, rest⟩ <;> simp

/-- Everything a CH.READ can do (spec/60_exceptions.md R220, R222). -/
theorem State.channelRead_cases (s : State) (n : Nat) :
    (s.channel = .absent ∧ s.channelRead n = .refused .channelAbsent) ∨
    (s.channel = .dead ∧ s.channelRead n = .refused .channelDead) ∨
    (s.channel = .connected ∧ s.readDraws = [] ∧ s.channelRead n = .waiting) ∨
    (s.channel = .connected ∧ ∃ b rest, s.readDraws = .bytes b :: rest ∧ b.length = n ∧
      s.channelRead n = .done b { s with readDraws := rest }) ∨
    (s.channel = .connected ∧ ∃ d rest, s.readDraws = d :: rest ∧ (∀ b, d = .bytes b → b.length ≠ n) ∧
      s.channelRead n = .failed { s with channel := .dead, readDraws := rest }) := by
  unfold State.channelRead
  cases s.channel <;> simp
  rcases s.readDraws with _ | ⟨⟨b⟩ | _, rest⟩ <;> simp
  by_cases hb : b.length = n <;> simp [hb]

/-- What a step does, by the script and the inputs (spec/60_exceptions.md R226). -/
theorem machineStep_script {s : State} {x : ExchangeStep} {rest : List ExchangeStep} (h : s.script = x :: rest) :
    machineStep s = exchangeStep x s { s with script := rest } := by
  simp [machineStep, h]

theorem machineStep_input {s : State} {a : Input} {rest : List Input} (h : s.script = []) (hi : s.inputs = a :: rest) :
    machineStep s = inputStep a s { s with inputs := rest } := by
  simp [machineStep, h, hi]

theorem machineStep_idle {s : State} (h : s.script = []) (hi : s.inputs = []) : machineStep s = .next s := by
  simp [machineStep, h, hi]

end Sys2Proof.Machine
end

