-- ==== Sys2Proof/Laws/PerInstr.lean ====
section
/-! SUPPORT. A property of every instruction as syntax, one lemma per constructor: its operation word is well
formed (spec/30_encoding.md R74, R75). -/

namespace Sys2Proof.Laws.EncodedWordDefined

/-- The instruction's word is not reserved. -/
def Statement (i : Instr) : Prop := wellFormedWord (encodeWord i) = true

theorem encQanc : Statement .encQanc := by unfold Statement; decide
theorem encQfw : Statement .encQfw := by unfold Statement; decide
theorem encQser : Statement .encQser := by unfold Statement; decide
theorem encSetancHigh : Statement .encSetancHigh := by unfold Statement; decide
theorem encSetancMid : Statement .encSetancMid := by unfold Statement; decide
theorem encSetancLow : Statement .encSetancLow := by unfold Statement; decide
theorem encSetancAdaptive : Statement .encSetancAdaptive := by unfold Statement; decide
theorem encSetancOff : Statement .encSetancOff := by unfold Statement; decide
theorem encSetancTransparency : Statement .encSetancTransparency := by unfold Statement; decide
theorem decAnc : Statement .decAnc := by unfold Statement; decide
theorem decFwlen : Statement .decFwlen := by unfold Statement; decide
theorem decFwstr : Statement .decFwstr := by unfold Statement; decide
theorem decSer : Statement .decSer := by unfold Statement; decide
theorem chkGen : Statement .chkGen := by unfold Statement; decide
theorem chkVal : Statement .chkVal := by unfold Statement; decide

end Sys2Proof.Laws.EncodedWordDefined
end

