-- ==== Sys2Proof/Laws/Run.lean ====
section
/-! SUPPORT. Runs: how steps chain, and once for each kind of exchange line what the step is. -/

namespace Sys2Proof.Machine

theorem run_succ {k : Nat} {s t : State} {o} (h : step s = .next t) (hk : Host.Core.run Sys2Proof.core k t = o) :
    Host.Core.run Sys2Proof.core (k + 1) s = o := by
  have hs : Sys2Proof.core.step s = .next t := h
  simp only [Host.Core.run, hs]
  exact hk

theorem run_add {j k : Nat} {s t : State} {o} (h : Host.Core.run Sys2Proof.core j s = .next t)
    (hk : Host.Core.run Sys2Proof.core k t = o) : Host.Core.run Sys2Proof.core (j + k) s = o := by
  induction j generalizing s with
  | zero =>
    cases h
    simpa using hk
  | succ j ih =>
    simp only [Host.Core.run] at h
    rw [show j + 1 + k = j + k + 1 by omega]
    simp only [Host.Core.run]
    split at h
    · exact ih h
    · cases h
    · cases h

theorem step_script {s t : State} {x : ExchangeStep} {rest : List ExchangeStep} (h : s.script = x :: rest)
    (ht : exchangeStep x s { s with script := rest } = .next t) : step s = .next t :=
  (machineStep_script h).trans ht

theorem step_input {s t : State} {a : Input} {rest : List Input} (h : s.script = []) (hi : s.inputs = a :: rest)
    (ht : inputStep a s { s with inputs := rest } = .next t) : step s = .next t :=
  (machineStep_input h hi).trans ht

/-- The caller starts an exchange. -/
theorem step_exchange {s : State} {e : Exchange} {rest : List Input} (h : s.script = [])
    (hi : s.inputs = .exchange e :: rest) :
    step s = .next { s with inputs := rest, script := e.lines, result := none } :=
  machineStep_input h hi

/-- TX.READ after an ENC operation gives the row's frame (spec/40_encoder.md R112). -/
theorem txSlice_encCommon (op : Byte) (row : Fin 9) (s : State) :
    (encCommon op row s).txSlice = some (romRead row).frame := by
  rw [encCommon_eq]
  exact State.txSlice_of_holds rfl (by simpa using romRead_flen_toNat row)

/-- Every ENC operation leaves STATUS at 0x10 (spec/40_encoder.md R100). -/
theorem status_encCommon (op : Byte) (row : Fin 9) (s : State) : (encCommon op row s).status = 0x10 := by
  rw [encCommon_eq]; rfl

/-- A CH.READ line whose draw is the count asked for (spec/60_exceptions.md R220). -/
theorem step_chRead_done {s : State} {m : BitVec 9} {b : List Byte} {ds : List ReadDraw} {rest : List ExchangeStep}
    (h : s.script = .chRead :: rest) (hc : s.channel = .connected) (hd : s.readDraws = .bytes b :: ds)
    (hr : s.resRsize = some m) (hb : b.length = m.toNat) :
    step s = .next { s with script := rest, readDraws := ds, hostRx := b } := by
  apply step_script h
  simp [exchangeStep, State.channelRead, hr, hc, hd, hb]

/-- A CH.READ line whose draw is not the count asked for (spec/60_exceptions.md R222). -/
theorem step_chRead_failed {s : State} {m : BitVec 9} {d : ReadDraw} {ds : List ReadDraw} {rest : List ExchangeStep}
    (h : s.script = .chRead :: rest) (hc : s.channel = .connected) (hd : s.readDraws = d :: ds)
    (hr : s.resRsize = some m) (hb : ∀ b, d = .bytes b → b.length ≠ m.toNat) :
    step s = .next { s with script := [], readDraws := ds, channel := .dead, result := some .transport } := by
  apply step_script h
  cases d <;> simp_all [exchangeStep, State.channelRead, State.endExchange]

/-- An RX.LOAD line (spec/60_exceptions.md R218). -/
theorem step_rxLoad {s : State} {rest : List ExchangeStep} (h : s.script = .rxLoad :: rest)
    (hn : s.hostRx.length ≤ 265) : step s = .next { s.loadRx s.hostRx with script := rest } := by
  apply step_script h
  simp [exchangeStep, rxLoad, Config.rxCap, hn]
  rfl

/-- The step of a TX.READ line right after an ENC operation. -/
theorem step_txRead_encCommon (op : Byte) (row : Fin 9) (s : State) (rest : List ExchangeStep) :
    step { encCommon op row s with script := .txRead :: rest } =
      .next { encCommon op row s with script := rest, hostTx := (romRead row).frame } := by
  apply step_script rfl
  have h : ({ encCommon op row s with script := rest } : State).txSlice = some (romRead row).frame :=
    txSlice_encCommon op row s
  simp only [exchangeStep]
  rw [h]

/-- ISSUE, TX.READ and a CH.WRITE that is Ok: the frame is sent (spec/60_exceptions.md R219). -/
theorem run_encode_write_ok {s : State} {op : Byte} {row : Fin 9} {rest : List ExchangeStep} {ws : List WriteDraw}
    (h : s.script = .issue op :: .txRead :: .chWrite :: rest) (hi : ∀ s, issueWord op s = .next (encCommon op row s))
    (hc : s.channel = .connected) (hw : s.writeDraws = .ok :: ws) :
    Host.Core.run Sys2Proof.core 3 s = .next { encCommon op row s with
      script := rest, hostTx := (romRead row).frame, sent := s.sent ++ (romRead row).frame, writeDraws := ws } := by
  refine run_succ (step_script h (hi _)) (run_succ (step_txRead_encCommon op row s _) (run_succ (step_script rfl ?_) rfl))
  have h1 : (encCommon op row s).channel = .connected := hc
  have h2 : (encCommon op row s).writeDraws = .ok :: ws := hw
  simp [exchangeStep, State.channelWrite, h1, h2]
  rfl

/-- ISSUE, TX.READ and a CH.WRITE that fails: the exchange ends (spec/60_exceptions.md R222). -/
theorem run_encode_write_failed {s : State} {op : Byte} {row : Fin 9} {rest : List ExchangeStep} {ws : List WriteDraw}
    (h : s.script = .issue op :: .txRead :: .chWrite :: rest) (hi : ∀ s, issueWord op s = .next (encCommon op row s))
    (hc : s.channel = .connected) (hw : s.writeDraws = .ioError :: ws) :
    Host.Core.run Sys2Proof.core 3 s = .next { encCommon op row s with
      script := [], hostTx := (romRead row).frame, channel := .dead, writeDraws := ws, result := some .transport } := by
  refine run_succ (step_script h (hi _)) (run_succ (step_txRead_encCommon op row s _) (run_succ (step_script rfl ?_) rfl))
  have h1 : (encCommon op row s).channel = .connected := hc
  have h2 : (encCommon op row s).writeDraws = .ioError :: ws := hw
  simp [exchangeStep, State.channelWrite, h1, h2]
  rfl

end Sys2Proof.Machine
end

