-- ==== Sys2Proof/Tests/Slice0.lean ====
section
/-! SUPPORT. Tests on fixed values: the checks of WellFormed on ill-formed terms, words written out bit by bit from
spec/30_encoding.md R74, single steps against spec/95_test_vectors.md, and for each statement with hypotheses a
concrete state and operands that meet them. -/

namespace Sys2Proof.Tests

open Sys2Proof Sys2Proof.Machine

/-! ### Helpers -/

/-- The state after a step that goes on. -/
def after : Host.Outcome State Fault Refusal → Option State
  | .next t => some t
  | .fault _ => none
  | .refused _ => none

/-- Reset, then RX.LOAD. -/
def loaded (bytes : List Byte) : State := State.reset.loadRx bytes

/-- As `loaded`, with a live firmware length. -/
def latched (n : Byte) (bytes : List Byte) : State := { loaded bytes with status := 0x50, opr := 0x21, resFwlen := some n }

/-- The host about to do `a` on a connected channel whose answers are given. -/
def host (a : Input) (ws : List WriteDraw) (rs : List ReadDraw) : State :=
  { State.reset with inputs := [a], channel := .connected, writeDraws := ws, readDraws := rs }

/-- A response of `len` bytes 0xAA with byte `i` set to `c`. -/
def response (len i : Nat) (c : Byte) : List Byte := (List.replicate len 0xAA).set i c

/-! ### WellFormed refuses the ill-formed terms -/

/-- The ends of each range of reserved words (spec/30_encoding.md R75). -/
theorem test_wellFormedWord_refuses_reserved :
    [0x00, 0x04, 0x0F, 0x10, 0x16, 0x18, 0x1F, 0x24, 0x2F, 0x32, 0xFF].all (fun w : Byte => !wellFormedWord w) = true := by
  decide

/-- The fifteen words of the operation map (spec/30_encoding.md R74). -/
theorem test_wellFormedWord_accepts_operations :
    [0x01, 0x02, 0x03, 0x11, 0x12, 0x13, 0x14, 0x15, 0x17, 0x20, 0x21, 0x22, 0x23, 0x30, 0x31].all wellFormedWord = true := by
  decide

/-- Every instruction is well formed: it has no operand field. -/
theorem test_wellFormed_operation : allOperations.all Instr.wellFormed = true := by decide

/-! ### Decoding, the words written out from spec/30_encoding.md R71, R72, R74 -/

theorem test_decode_encQanc : decode [0b00000001#8] = .ok (.encQanc, []) := by decide
theorem test_decode_encQfw : decode [0b00000010#8] = .ok (.encQfw, []) := by decide
theorem test_decode_encQser : decode [0b00000011#8] = .ok (.encQser, []) := by decide
theorem test_decode_encSetancHigh : decode [0b00010001#8] = .ok (.encSetancHigh, []) := by decide
theorem test_decode_encSetancMid : decode [0b00010010#8] = .ok (.encSetancMid, []) := by decide
theorem test_decode_encSetancLow : decode [0b00010011#8] = .ok (.encSetancLow, []) := by decide
theorem test_decode_encSetancAdaptive : decode [0b00010100#8] = .ok (.encSetancAdaptive, []) := by decide
theorem test_decode_encSetancOff : decode [0b00010101#8] = .ok (.encSetancOff, []) := by decide
theorem test_decode_encSetancTransparency : decode [0b00010111#8] = .ok (.encSetancTransparency, []) := by decide
theorem test_decode_decAnc : decode [0b00100000#8] = .ok (.decAnc, []) := by decide
theorem test_decode_decFwlen : decode [0b00100001#8] = .ok (.decFwlen, []) := by decide
theorem test_decode_decFwstr : decode [0b00100010#8] = .ok (.decFwstr, []) := by decide
theorem test_decode_decSer : decode [0b00100011#8] = .ok (.decSer, []) := by decide
theorem test_decode_chkGen : decode [0b00110000#8] = .ok (.chkGen, []) := by decide
theorem test_decode_chkVal : decode [0b00110001#8] = .ok (.chkVal, []) := by decide

/-- A reserved word and an empty list are refused by name; the bytes after the word are left. -/
theorem test_decode_rejects : decode [0x16] = .error (.reserved 0x16) ∧ decode [] = .error .noWord ∧
    decode [0x20, 0xFF] = .ok (.decAnc, [0xFF]) := by
  decide

/-- A table word decodes, and `withFetchWord` puts it where the next step runs it. -/
theorem test_fetch_word : decodeTableWord 8 0x17 = some .encSetancTransparency ∧ decodeTableWord 8 0x16 = none ∧
    (after (step (State.reset.withFetchWord 8 0x17))).map (fun t => (t.opr, t.txlen)) = some (0x17, 13) := by
  decide

/-! ### One operation each, against spec/95_test_vectors.md -/

/-- V2.1, row 0. -/
theorem test_encQanc : (after (exec .encQanc State.reset)).map (fun t => (t.status, t.resRsize)) = some (0x10, some 16) := by
  decide

/-- V2.1, row 7: TX.READ gives the ten bytes. -/
theorem test_encQfw : ((after (exec .encQfw State.reset)).bind State.txSlice) =
    some [0x55, 0x60, 0x01, 0x42, 0xc0, 0x00, 0x00, 0x03, 0xe0, 0xd1] := by
  decide

/-- V2.1, row 8. -/
theorem test_encQser : (after (exec .encQser State.reset)).map (fun t => (t.txlen, t.resRsize)) = some (10, some 47) := by
  decide

/-- V2.1, row 1. -/
theorem test_encSetancHigh : ((after (exec .encSetancHigh State.reset)).bind State.txSlice) =
    some [0x55, 0x60, 0x01, 0x0f, 0xf0, 0x03, 0x00, 0xed, 0x01, 0x01, 0x00, 0xcd, 0x47] := by
  decide

/-- V2.1, row 2: the set-ANC reads no response. -/
theorem test_encSetancMid : (after (exec .encSetancMid State.reset)).map (fun t => (t.txlen, t.resRsize)) = some (13, some 0) := by
  decide

/-- V2.1, row 3. -/
theorem test_encSetancLow : ((after (exec .encSetancLow State.reset)).bind State.txSlice) =
    some [0x55, 0x60, 0x01, 0x0f, 0xf0, 0x03, 0x00, 0x67, 0x01, 0x03, 0x00, 0xe6, 0x3f] := by
  decide

/-- V2.1, row 4. -/
theorem test_encSetancAdaptive : ((after (exec .encSetancAdaptive State.reset)).bind State.txSlice) =
    some [0x55, 0x60, 0x01, 0x0f, 0xf0, 0x03, 0x00, 0x76, 0x01, 0x04, 0x00, 0xe1, 0x33] := by
  decide

/-- V2.2.3: the firmware length and the latch of an earlier exchange do not matter, and the latch is dropped. -/
theorem test_encSetancOff : (after (exec .encSetancOff (latched 5 []))).map (fun t => (t.txbuf.read 7, t.status)) =
    some (some 0x04, 0x10) := by
  decide

/-- V2.2.1: after a 13-byte frame, ENC.QFW leaves no value at index 10, and a host read there is a fault. -/
theorem test_encQfw_after_transparency :
    ((after (exec .encSetancTransparency State.reset)).bind fun t => after (exec .encQfw t)).map
      (fun t => (t.txbuf.read 10, t.hostRead (.txbuf 10))) = some (none, none) := by
  decide

/-- V2.3.6. -/
theorem test_decAnc_transparency : (after (exec .decAnc (loaded (response 16 9 0x07)))).map
    (fun t => (t.status, t.resMode)) = some (0x10, some 7) := by
  decide

/-- V2.3.8: the reserved code 6. -/
theorem test_decAnc_reserved_code : (after (exec .decAnc (loaded (response 16 9 0x06)))).map
    (fun t => (t.status, t.resMode)) = some (0x01, none) := by
  decide

/-- V2.4.3: n = 255 gives 257, no wrap. -/
theorem test_decFwlen_no_wrap : (after (exec .decFwlen (loaded (response 8 5 0xFF)))).map
    (fun t => (t.status, t.resRsize)) = some (0x50, some 257) := by
  decide

/-- V2.4.6: seven bytes. -/
theorem test_decFwlen_short : (after (exec .decFwlen (latched 5 (List.replicate 7 0)))).map
    (fun t => (t.status, t.resFwlen)) = some (0x02, some 5) := by
  decide

/-- V2.5.1. -/
theorem test_decFwstr : (after (exec .decFwstr (latched 5 [0x31, 0x2e, 0x32, 0x2e, 0x33, 0x00, 0x00]))).map
    (fun t => (t.status, t.resStr)) = some (0x10, some [0x31, 0x2e, 0x32, 0x2e, 0x33]) := by
  decide

/-- V2.5.5: no live length. -/
theorem test_decFwstr_no_length : (after (exec .decFwstr (loaded [0x00, 0x00]))).map (·.status) = some 0x03 := by
  decide

/-- V2.6.1 and V2.6.3: byte 46 is inside the slice, byte 30 is not. -/
theorem test_decSer : (after (exec .decSer (loaded ((response 47 30 0x01).set 46 0x02)))).map
    (fun t => (t.resStrlen, t.resStr)) = some (some 16, some (List.replicate 15 0xAA ++ [0x02])) := by
  decide

/-- V2.6.4: 46 bytes. -/
theorem test_decSer_short : (after (exec .decSer (loaded (List.replicate 46 0x20)))).map (·.status) = some 0x02 := by
  decide

/-- The example of spec/42_checksum.md R164; the latch is kept. -/
theorem test_chkGen : (after (exec .chkGen (latched 5 [0x55, 0x60, 0x01, 0x42, 0xc0, 0x00, 0x00, 0x03]))).map
    (fun t => (t.status, t.resCrc)) = some (0x50, some 0xD1E0) := by
  decide +kernel

/-- The example of spec/42_checksum.md R165. -/
theorem test_chkVal : (after (exec .chkVal
    (loaded [0x55, 0x60, 0x01, 0x1e, 0xc0, 0x01, 0x00, 0x0c, 0x03, 0x98, 0x19]))).map
    (fun t => (t.status, t.resCrc)) = some (0x30, some 0x1998) := by
  decide +kernel

/-- The example of spec/42_checksum.md R165 with its last byte changed: a success with CRC_OK = 0. -/
theorem test_chkVal_mismatch : (after (exec .chkVal
    (loaded [0x55, 0x60, 0x01, 0x1e, 0xc0, 0x01, 0x00, 0x0c, 0x03, 0x98, 0x18]))).map
    (fun t => (t.status, t.resCrc)) = some (0x10, some 0x1998) := by
  decide +kernel

/-- V2.5.7: a reserved word keeps the latch (spec/60_exceptions.md R205). -/
theorem test_illegalOp : (after (issueWord 0xFF (latched 3 []))).map (fun t => (t.opr, t.status)) = some (0xFF, 0x44) := by
  decide

/-- A line of each form of spec/30_encoding.md R88. -/
theorem test_parseLine : parseLine "RX.LOAD 55 60 ; two bytes" = some (some (.rxLoad [0x55, 0x60])) ∧
    parseLine "CH.READ 16" = some (some (.chRead 16)) ∧ parseLine "ISSUE 0x16" = some (some (.issue 0x16)) ∧
    parseLine "; nothing" = some none ∧ parseLine "ENC.QQQ" = none := by
  decide

/-! ### What meets the hypotheses of each statement -/

theorem witness_DecodeRefusesExactlyReservedWords :
    reservedWord 0x00 = true ∧ reservedWord 0x16 = true ∧ reservedWord 0xFF = true ∧ reservedWord 0x01 = false ∧
      reservedWord 0x31 = false := by
  decide

theorem witness_StepRunsTheDecodedOperation :
    decode [0x31] = .ok (.chkVal, []) ∧ (host (.issue 0x31) [] []).script = [] ∧
      (host (.issue 0x31) [] []).inputs = .issue 0x31 :: [] ∧
      ({ State.reset with script := [.issue 0x31] } : State).script = .issue 0x31 :: [] ∧
      decodeTableWord 8 0x31 = some .chkVal := by
  decide

theorem witness_ReservedWordRaisesIllegalOp :
    reservedWord 0x32 = true ∧ (host (.issue 0x32) [] []).script = [] ∧
      (host (.issue 0x32) [] []).inputs = .issue 0x32 :: [] ∧
      ({ State.reset with script := [.issue 0x32] } : State).script = .issue 0x32 :: [] := by
  decide

theorem witness_ResetLeavesTheListedValues :
    (host .reset [] []).script = [] ∧ (host .reset [] []).inputs = .reset :: [] := by
  decide

theorem witness_EncoderIsDeterministic : isEnc .encSetancTransparency = true ∧ isEnc .encQanc = true := by decide

/-- Index 10 is past the ten bytes of ENC.QSER. -/
theorem witness_EncLeavesNoStaleFrameBytes :
    isEnc .encQser = true ∧
      (after (exec .encQser State.reset)).map (fun t => decide (t.txlen.toNat ≤ 10)) = some true := by
  decide

/-- RXLEN 15 and 17; RXLEN 16 with a code and with the codes 0, 6 and 8 beside the range. -/
theorem witness_DecAncDecodesTheStatusByte :
    (loaded (List.replicate 15 0x05)).rxlen ≠ 16 ∧ (loaded (List.replicate 17 0x05)).rxlen ≠ 16 ∧
      (loaded (response 16 9 0x07)).rxlen = 16 ∧ (loaded (response 16 9 0x07)).rxbuf.read 9 = some 0x07 ∧
      (0x07 : Byte) ∈ [0x01, 0x02, 0x03, 0x04, 0x05, (0x07 : Byte)] ∧
      (loaded (response 16 9 0x06)).rxlen = 16 ∧ (loaded (response 16 9 0x06)).rxbuf.read 9 = some 0x06 ∧
      (0x06 : Byte) ∉ [0x01, 0x02, 0x03, 0x04, 0x05, (0x07 : Byte)] := by
  decide

/-- RXLEN 7 and 9; RXLEN 8 with n = 0 and n = 255. -/
theorem witness_DecFwlenLatchesTheLengthByte :
    (loaded (List.replicate 7 0)).rxlen ≠ 8 ∧ (loaded (List.replicate 9 0)).rxlen ≠ 8 ∧
      (loaded (response 8 5 0x00)).rxlen = 8 ∧ (loaded (response 8 5 0x00)).rxbuf.read 5 = some 0x00 ∧
      (loaded (response 8 5 0xFF)).rxlen = 8 ∧ (loaded (response 8 5 0xFF)).rxbuf.read 5 = some 0xFF := by
  decide

/-- No live length; a live one with the wrong RXLEN; n = 0 with two bytes. -/
theorem witness_DecFwstrTakesTheFirstBytes :
    statusFwlenValid (loaded [0x00, 0x00]).status = false ∧
      (statusFwlenValid (latched 5 [0x31]).status = true ∧ (latched 5 [0x31]).resFwlen = some 5 ∧
        (latched 5 [0x31]).rxlen.toNat ≠ (5 : Byte).toNat + 2) ∧
      statusFwlenValid (latched 0 [0xaa, 0xbb]).status = true ∧ (latched 0 [0xaa, 0xbb]).resFwlen = some 0 ∧
      (latched 0 [0xaa, 0xbb]).holdsRx [0xaa, 0xbb] ∧ [(0xaa : Byte), 0xbb].length = (0 : Byte).toNat + 2 := by
  refine ⟨?_, ⟨?_, ?_, ?_⟩, ?_, ?_, ⟨?_, ?_⟩, ?_⟩ <;> decide

/-- n = 255 with 257 bytes. -/
theorem witness_DecFwstrTakesTheFirstBytes_longest :
    statusFwlenValid (latched 255 (List.replicate 257 0x61)).status = true ∧
      (latched 255 (List.replicate 257 0x61)).resFwlen = some 255 ∧
      (latched 255 (List.replicate 257 0x61)).holdsRx (List.replicate 257 0x61) ∧
      (List.replicate 257 (0x61 : Byte)).length = (255 : Byte).toNat + 2 := by
  refine ⟨by decide, rfl, ⟨rfl, ?_⟩, List.length_replicate⟩
  rw [List.length_replicate]
  exact congrArg (fun n => (BitVec.ofNat 9 n).toNat) List.length_replicate

/-- RXLEN 46 and 48; 47 bytes. -/
theorem witness_DecSerTakesTheSerialBytes :
    (loaded (List.replicate 46 0x20)).rxlen ≠ 47 ∧ (loaded (List.replicate 48 0x20)).rxlen ≠ 47 ∧
      (loaded (response 47 46 0x01)).holdsRx (response 47 46 0x01) ∧ (response 47 46 0x01).length = 47 := by
  refine ⟨?_, ?_, ⟨?_, ?_⟩, ?_⟩ <;> decide

theorem witness_StatusDecodeRoundTrip :
    (loaded (response 16 9 0x07)).holdsRx (response 16 9 0x07) ∧ (response 16 9 0x07).length = 16 ∧
      (response 16 9 0x07)[9]? = some (codeOf .transparency) := by
  refine ⟨⟨?_, ?_⟩, ?_, ?_⟩ <;> decide

theorem witness_ModeAndCodeAreInverse : modeOf 0x07 = some .transparency := by decide

theorem witness_NoModeWithoutItsCode :
    ∃ t, exec .decAnc (loaded (response 16 9 0x01)) = .next t ∧ t.resMode = some 1 :=
  ⟨_, rfl, rfl⟩

/-- Two different buffers that agree on byte 9, and on the two bytes of a live length of 2. -/
theorem witness_DecodersReadOnlyTheirOperands :
    isDec .decAnc = true ∧ (loaded (response 16 9 0x05)).rxlen = (loaded ((List.replicate 16 0).set 9 0x05)).rxlen ∧
      (∀ j ∈ decReads .decAnc (loaded (response 16 9 0x05)),
        (loaded (response 16 9 0x05)).rxbuf.read j = (loaded ((List.replicate 16 0).set 9 0x05)).rxbuf.read j) ∧
      (∃ t, exec .decAnc (loaded (response 16 9 0x05)) = .next t) ∧
    isDec .decFwstr = true ∧ (latched 2 [1, 2, 3, 4]).rxlen = (latched 2 [1, 2, 5, 6]).rxlen ∧
      (∀ j ∈ decReads .decFwstr (latched 2 [1, 2, 3, 4]),
        (latched 2 [1, 2, 3, 4]).rxbuf.read j = (latched 2 [1, 2, 5, 6]).rxbuf.read j) ∧
      statusFwlenValid (latched 2 [1, 2, 3, 4]).status = statusFwlenValid (latched 2 [1, 2, 5, 6]).status ∧
      (latched 2 [1, 2, 3, 4]).resFwlen = (latched 2 [1, 2, 5, 6]).resFwlen ∧
      ∃ t, exec .decFwstr (latched 2 [1, 2, 3, 4]) = .next t := by
  refine ⟨?_, ?_, ?_, ⟨_, rfl⟩, ?_, ?_, ?_, ?_, ?_, ⟨_, rfl⟩⟩ <;> decide

theorem witness_DecodersReadOnlyTheirOperands_length :
    isDec .decFwlen = true ∧ (loaded (response 8 5 0x05)).rxlen = (loaded ((List.replicate 8 0).set 5 0x05)).rxlen ∧
      (∀ j ∈ decReads .decFwlen (loaded (response 8 5 0x05)),
        (loaded (response 8 5 0x05)).rxbuf.read j = (loaded ((List.replicate 8 0).set 5 0x05)).rxbuf.read j) ∧
      ∃ t, exec .decFwlen (loaded (response 8 5 0x05)) = .next t ∧ statusValid t.status = true := by
  refine ⟨?_, ?_, ?_, ⟨_, rfl, ?_⟩⟩ <;> decide

theorem witness_ChkGenComputesTheChecksum : State.reset.holdsRx [] ∧ (loaded [0x55]).holdsRx [0x55] := by
  refine ⟨⟨?_, ?_⟩, ⟨?_, ?_⟩⟩ <;> decide

/-- RXLEN 0 and 1; an empty body and its two trailer bytes. -/
theorem witness_ChkValComparesTheTrailer :
    State.reset.rxlen.toNat < 2 ∧ (loaded [0x55]).rxlen.toNat < 2 ∧ (loaded [0xFF, 0xFF]).holdsRx ([] ++ [0xFF, 0xFF]) := by
  refine ⟨?_, ?_, ⟨?_, ?_⟩⟩ <;> decide

theorem witness_AppendedChecksumValidates : (List.replicate 263 (0x00 : Byte)).length ≤ 263 :=
  List.length_replicate.le

/-- CRC_OK, VALID and ERR differ; FWLEN_VALID does not. -/
theorem witness_OperationsReadOnlyTheLatchOfStatus : statusFwlenValid 0x30 = statusFwlenValid State.reset.status := by
  decide

/-- A reserved word, a DEC operation and CHK.VAL fail, with a live length before. -/
theorem witness_FailedOperationWritesOnlyItsError :
    (∃ t, issueWord 0x00 (latched 5 []) = .next t ∧ statusErr t.status ≠ 0 ∧ reservedWord 0x00 = true) ∧
      (∃ t, issueWord 0x20 (latched 5 []) = .next t ∧ statusErr t.status ≠ 0 ∧ decode [0x20] = .ok (.decAnc, []) ∧
        isDec .decAnc = true) ∧
      ∃ t, issueWord 0x31 (latched 5 []) = .next t ∧ statusErr t.status ≠ 0 ∧ decode [0x31] = .ok (.chkVal, []) ∧
        isChk .chkVal = true := by
  refine ⟨⟨_, rfl, ?_, ?_⟩, ⟨_, rfl, ?_, ?_, ?_⟩, ⟨_, rfl, ?_, ?_, ?_⟩⟩ <;> decide

/-- Each clause: a reserved word, DEC.FWLEN succeeding and failing, an operation that clears, one that keeps. -/
theorem witness_LatchFollowsEachOperation :
    (∃ t, issueWord 0xFF (latched 5 []) = .next t ∧ reservedWord 0xFF = true) ∧
      (∃ t, issueWord 0x21 (loaded (response 8 5 5)) = .next t ∧ decode [0x21] = .ok (.decFwlen, []) ∧
        statusValid t.status = true) ∧
      (∃ t, issueWord 0x21 (latched 5 []) = .next t ∧ statusValid t.status = false) ∧
      (∃ t, issueWord 0x03 (latched 5 []) = .next t ∧ decode [0x03] = .ok (.encQser, []) ∧ isEnc .encQser = true) ∧
      ∃ t, issueWord 0x30 (latched 5 []) = .next t ∧ decode [0x30] = .ok (.chkGen, []) ∧ isChk .chkGen = true := by
  refine ⟨⟨_, rfl, ?_⟩, ⟨_, rfl, ?_, ?_⟩, ⟨_, rfl, ?_⟩, ⟨_, rfl, ?_, ?_⟩, ⟨_, rfl, ?_, ?_⟩⟩ <;> decide

theorem witness_OnlyTheOperationsResultsHoldValues :
    ∃ t, issueWord 0x20 (loaded (response 16 9 0x05)) = .next t ∧ t.resMode.isSome = true :=
  ⟨_, rfl, rfl⟩

/-- A DEC operation, that is no ENC, and one that is no successful DEC.FWLEN. -/
theorem witness_OperationFrame :
    ∃ t, issueWord 0x20 (latched 5 [0x55]) = .next t ∧ (∀ i, decode [0x20] = .ok (i, []) → isEnc i = false) ∧
      ((0x20 : Byte) ≠ 0x21 ∨ statusValid t.status = false) := by
  refine ⟨_, rfl, fun i h => ?_, .inl (by decide)⟩
  cases h
  rfl

theorem witness_NoStepWritesEncodingOrTransport : ∃ t, step (host (.issue 0x16) [] []) = .next t := ⟨_, rfl⟩

/-- A state with a live firmware length of 255 and no issued error. -/
theorem witness_inv :
    State.Inv { latched 255 [0x00, 0x00] with resRsize := some 257, inputs := [.issue 0x22] } := by
  constructor <;> first | decide | exact fun _ => ⟨by decide, by decide, by decide, by decide, by decide, by decide⟩

theorem witness_StepKeepsTheInvariant :
    State.Inv { latched 255 [0x00, 0x00] with resRsize := some 257, inputs := [.issue 0x22] } ∧
      ∃ t, step { latched 255 [0x00, 0x00] with resRsize := some 257, inputs := [.issue 0x22] } = .next t :=
  ⟨witness_inv, _, rfl⟩

theorem witness_EveryWordCompletesUnderTheInvariant :
    State.Inv { latched 255 [0x00, 0x00] with resRsize := some 257, inputs := [.issue 0x22] } := witness_inv

/-- 0, 265 and 266 bytes. -/
theorem witness_RxLoadFillsTheBuffer :
    (host (.rxLoad []) [] []).script = [] ∧ (host (.rxLoad []) [] []).inputs = .rxLoad [] :: [] ∧
      ([] : List Byte).length ≤ 265 ∧
      (host (.rxLoad (List.replicate 265 0)) [] []).inputs = .rxLoad (List.replicate 265 0) :: [] ∧
      (List.replicate 265 (0 : Byte)).length ≤ 265 ∧
      (host (.rxLoad (List.replicate 266 0)) [] []).inputs = .rxLoad (List.replicate 266 0) :: [] ∧
      265 < (List.replicate 266 (0 : Byte)).length := by
  refine ⟨rfl, rfl, Nat.zero_le _, rfl, List.length_replicate.le, rfl, ?_⟩
  rw [List.length_replicate]
  decide

/-- V2.2.6: the empty buffer of reset; and a frame of two bytes. -/
theorem witness_TxReadReturnsTheFrame :
    ((host .txRead [] []).script = [] ∧ (host .txRead [] []).inputs = .txRead :: [] ∧
      (host .txRead [] []).txbuf = Memory.ofBytes [] ∧ (host .txRead [] []).txlen.toNat = ([] : List Byte).length) ∧
      ({ host .txRead [] [] with txbuf := [(0, 0x55), (1, 0x60)], txlen := 2 } : State).txbuf =
        Memory.ofBytes [0x55, 0x60] := by
  decide

theorem witness_ReadOfAResultAfterAnErrorFaults :
    (∃ t, issueWord 0x20 State.reset = .next t ∧ statusErr t.status ≠ 0) ∧
      HostReg.resRsize ∈ [HostReg.resMode, .resStrlen, .resStr, .resCrc, .resRsize] := by
  refine ⟨⟨_, rfl, ?_⟩, ?_⟩ <;> decide

/-- Each register once; the last loaded byte; a length that is not live. -/
theorem witness_HostReadReturnsTheRegister :
    (host (.readReg .opr) [] []).script = [] ∧ (host (.readReg .opr) [] []).inputs = .readReg .opr :: [] ∧
      (host (.readReg .status) [] []).inputs = .readReg .status :: [] ∧
      (host (.readReg .txlen) [] []).inputs = .readReg .txlen :: [] ∧
      (host (.readReg .rxlen) [] []).inputs = .readReg .rxlen :: [] ∧
      (({ loaded [7, 8] with inputs := [.readReg (.rxbuf 1)] } : State).rxbuf.read 1 = some 8 ∧
        1 < ({ loaded [7, 8] with inputs := [.readReg (.rxbuf 1)] } : State).rxlen.toNat) ∧
      ({ latched 5 [] with status := 0x10, inputs := [.readReg .resFwlen] } : State).resFwlen = some 5 := by
  decide

/-- The last byte of an eleven-byte frame; each result register after an operation that writes it. -/
theorem witness_HostReadReturnsTheRegister_results :
    (after (exec .encQanc State.reset)).map (fun t => (t.script, t.txbuf.read 10, t.txlen, t.resRsize)) =
        some ([], some 0x19, 11, some 16) ∧
      (after (exec .decAnc (loaded (response 16 9 0x05)))).map (fun t => (t.script, t.resMode)) = some ([], some 5) ∧
      (after (exec .decFwstr (latched 1 [0x31, 0, 0]))).map (fun t => (t.script, t.resStrlen, t.resStr)) =
        some ([], some 1, some [0x31]) ∧
      (after (exec .chkGen State.reset)).map (fun t => (t.script, t.resCrc)) = some ([], some 0xFFFF) := by
  decide

/-- Right after reset, and the first index past two loaded bytes and past the ten bytes of ENC.QFW. -/
theorem witness_HostReadOfNoValueFaults :
    (host (.readReg .resFwlen) [] []).script = [] ∧
      (host (.readReg .resFwlen) [] []).inputs = .readReg .resFwlen :: [] ∧
      (State.reset.resMode = none ∧ State.reset.resFwlen = none ∧ State.reset.resStrlen = none ∧
        State.reset.resStr = none ∧ State.reset.resCrc = none ∧ State.reset.resRsize = none) ∧
      (loaded [7, 8]).rxlen.toNat ≤ 2 ∧
      (after (exec .encQfw State.reset)).map (fun t => decide (t.txlen.toNat ≤ 10)) = some true := by
  decide

theorem witness_BringUpSuppliesOneChannel :
    (host .channelUp [] []).script = [] ∧ (host .channelUp [] []).inputs = .channelUp :: [] ∧
      (host .channelUp [] []).channel ≠ .absent ∧
      ({ State.reset with inputs := [.channelUp] } : State).channel = .absent ∧ State.reset.inputs = [] := by
  decide

/-- A dead and an absent channel, each action outside and inside an exchange. -/
theorem witness_NoChannelActionOnADeadChannel :
    ({ host (.chWrite [0x55]) [] [] with channel := .dead } : State).channel = .dead ∧
      ({ host (.chWrite [0x55]) [] [] with channel := .dead } : State).inputs = .chWrite [0x55] :: [] ∧
      ({ State.reset with inputs := [.chRead 0] } : State).channel = .absent ∧
      ({ State.reset with inputs := [.chRead 0] } : State).inputs = .chRead 0 :: [] ∧
      ({ State.reset with script := [.chWrite] } : State).script = .chWrite :: [] ∧
      ({ State.reset with script := [.chRead], resRsize := some 16 } : State).script = .chRead :: [] ∧
      ({ State.reset with script := [.chRead], resRsize := some 16 } : State).resRsize = some 16 := by
  decide

theorem witness_UnansweredReadHangs :
    (host (.chRead 16) [] []).channel = .connected ∧ (host (.chRead 16) [] []).readDraws = [] ∧
      (host (.chRead 16) [] []).script = [] ∧ (host (.chRead 16) [] []).inputs = .chRead 16 :: [] ∧
      ({ host .txRead [] [] with script := [.chRead], resRsize := some 16 } : State).script = .chRead :: [] ∧
      ({ host .txRead [] [] with script := [.chRead], resRsize := some 16 } : State).resRsize = some 16 := by
  decide

/-- A draw of the count, a shorter one, IoError, and the count 0. -/
theorem witness_ChannelReadFillsOrFails :
    (host (.chRead 2) [] [.bytes [1, 2]]).inputs = .chRead 2 :: [] ∧
      (host (.chRead 2) [] [.bytes [1, 2]]).readDraws = .bytes [1, 2] :: [] ∧ [(1 : Byte), 2].length = 2 ∧
      (host (.chRead 2) [] [.bytes [1]]).readDraws = .bytes [1] :: [] ∧ [(1 : Byte)].length ≠ 2 ∧
      (host (.chRead 0) [] [.ioError]).readDraws = .ioError :: [] ∧ (host (.chRead 0) [] [.ioError]).script = [] ∧
      (host (.chRead 0) [] [.ioError]).channel = .connected := by
  decide

theorem witness_ChannelWriteCompletesOrFails :
    (host (.chWrite [0x55]) [.ok] []).script = [] ∧ (host (.chWrite [0x55]) [.ok] []).inputs = .chWrite [0x55] :: [] ∧
      (host (.chWrite [0x55]) [.ok] []).channel = .connected ∧
      (host (.chWrite [0x55]) [.ok] []).writeDraws = .ok :: [] ∧
      (host (.chWrite []) [.ioError] []).writeDraws = .ioError :: [] := by
  decide

theorem witness_ExchangesIssueDefinedWords :
    ExchangeStep.issue 0x17 ∈ (Exchange.setAnc .transparency).lines ∧ ExchangeStep.issue 0x20 ∈ Exchange.queryAnc.lines ∧
      ExchangeStep.issue 0x22 ∈ Exchange.queryDeviceInfo.lines := by
  decide

/-- A failed write, a short read, a response with a code, and one without. -/
theorem witness_QueryAncExchange :
    (host (.exchange .queryAnc) [.ioError] []).script = [] ∧
      (host (.exchange .queryAnc) [.ioError] []).inputs = .exchange .queryAnc :: [] ∧
      (host (.exchange .queryAnc) [.ioError] []).channel = .connected ∧
      (host (.exchange .queryAnc) [.ioError] []).writeDraws = .ioError :: [] ∧
      (host (.exchange .queryAnc) [.ok] [.bytes (response 15 9 5)]).readDraws = .bytes (response 15 9 5) :: [] ∧
      (response 15 9 5).length ≠ 16 ∧ (response 16 9 5).length = 16 ∧
      (response 16 9 5)[9]? = some 5 ∧ (5 : Byte) = codeOf .off ∧ (response 16 9 6)[9]? = some 6 ∧
      (6 : Byte) ∉ [0x01, 0x02, 0x03, 0x04, 0x05, (0x07 : Byte)] := by
  decide

theorem witness_SetAncExchange :
    (host (.exchange (.setAnc .transparency)) [.ioError] []).script = [] ∧
      (host (.exchange (.setAnc .transparency)) [.ioError] []).inputs = .exchange (.setAnc .transparency) :: [] ∧
      (host (.exchange (.setAnc .transparency)) [.ioError] []).channel = .connected ∧
      (host (.exchange (.setAnc .transparency)) [.ioError] []).writeDraws = .ioError :: [] ∧
      (host (.exchange (.setAnc .transparency)) [.ok] []).writeDraws = .ok :: [] := by
  decide

/-- The firmware length 0: eight, two and forty-seven bytes. -/
theorem witness_QueryDeviceInfoExchange :
    (host (.exchange .queryDeviceInfo) [.ok, .ok] []).script = [] ∧
      (host (.exchange .queryDeviceInfo) [.ok, .ok] []).inputs = .exchange .queryDeviceInfo :: [] ∧
      (host (.exchange .queryDeviceInfo) [.ok, .ok] []).channel = .connected ∧
      (host (.exchange .queryDeviceInfo) [.ok, .ok] []).writeDraws = .ok :: .ok :: [] ∧
      (host (.exchange .queryDeviceInfo) [.ok, .ok]
        [.bytes (response 8 5 0), .bytes [1, 2], .bytes (response 47 31 3)]).readDraws =
          .bytes (response 8 5 0) :: .bytes [1, 2] :: .bytes (response 47 31 3) :: [] ∧
      (response 8 5 0).length = 8 ∧ (response 8 5 0)[5]? = some 0 ∧ [(1 : Byte), 2].length = (0 : Byte).toNat + 2 ∧
      (response 47 31 3).length = 47 := by
  decide

/-- Each place an exchange can fail: the two writes and the three reads, with lengths one short. -/
theorem witness_DeviceInfoTransportFailures :
    (host (.exchange .queryDeviceInfo) [.ioError] []).script = [] ∧
      (host (.exchange .queryDeviceInfo) [.ioError] []).inputs = .exchange .queryDeviceInfo :: [] ∧
      (host (.exchange .queryDeviceInfo) [.ioError] []).channel = .connected ∧
      (host (.exchange .queryDeviceInfo) [.ioError] []).writeDraws = .ioError :: [] ∧
      (host (.exchange .queryDeviceInfo) [.ok, .ioError] []).writeDraws = .ok :: .ioError :: [] ∧
      (response 7 5 255).length ≠ 8 ∧ (response 8 5 255).length = 8 ∧ (response 8 5 255)[5]? = some 255 ∧
      [(1 : Byte), 2].length ≠ (255 : Byte).toNat + 2 ∧ (response 8 5 0)[5]? = some 0 ∧
      [(1 : Byte), 2].length = (0 : Byte).toNat + 2 ∧ (response 46 31 3).length ≠ 47 := by
  decide

end Sys2Proof.Tests
end

section
/-! SUPPORT. Everything an issue can leave, as one case per kind of end, and every fact about an issue derived from
those cases. -/

namespace Sys2Proof.Machine

/-! ### The words by family -/

/-- An operation is an ENC operation or one of the six that read RXBUF (spec/30_encoding.md R74). -/
theorem isEnc_or_reader (i : Instr) :
    isEnc i = true ∨ i = .decAnc ∨ i = .decFwlen ∨ i = .decFwstr ∨ i = .decSer ∨ i = .chkGen ∨ i = .chkVal := by
  cases i <;> decide

/-! The words of the operations that read RXBUF (spec/30_encoding.md R74). -/

@[simp] theorem encodeWord_decAnc : encodeWord .decAnc = 0x20 := rfl
@[simp] theorem encodeWord_decFwlen : encodeWord .decFwlen = 0x21 := rfl
@[simp] theorem encodeWord_decFwstr : encodeWord .decFwstr = 0x22 := rfl
@[simp] theorem encodeWord_decSer : encodeWord .decSer = 0x23 := rfl
@[simp] theorem encodeWord_chkGen : encodeWord .chkGen = 0x30 := rfl
@[simp] theorem encodeWord_chkVal : encodeWord .chkVal = 0x31 := rfl

theorem reservedWord_encodeWord (i : Instr) : reservedWord (encodeWord i) = false := by
  rcases decodeWord_cases (encodeWord i) with ⟨_, hd⟩ | ⟨hr, _⟩
  · simp at hd
  · exact hr

theorem decodeWord_of_reserved {op : Byte} (h : reservedWord op = true) : decodeWord op = none := by
  rcases decodeWord_cases op with ⟨_, hd⟩ | ⟨hr, _⟩
  · exact hd
  · simp [hr] at h

/-- A word that the operation map reads has UNIT 0 or 1 exactly when its operation is an ENC operation. -/
theorem exists_enc_iff_unit {op : Byte} (h : reservedWord op = false) :
    (∃ i, decode [op] = .ok (i, []) ∧ isEnc i = true) ↔ (unitField op).toNat ≤ 1 := by
  rcases decodeWord_cases op with ⟨hr, _⟩ | ⟨_, i, hd, rfl⟩
  · simp [hr] at h
  · simp [decode_singleton_eq_ok, isEnc]

theorem unit_of_isEnc {i : Instr} (h : isEnc i = true) : (unitField (encodeWord i)).toNat ≤ 1 := by
  simpa [isEnc] using h

theorem isChk_of_isEnc {i : Instr} (h : isEnc i = true) : isChk i = false := by
  have := unit_of_isEnc h
  simp only [isChk, decide_eq_false_iff_not]
  omega

theorem isChk_of_isDec {i : Instr} (h : isDec i = true) : isChk i = false := by
  simp_all [isChk, isDec]

theorem encodeWord_of_decodeWord {op : Byte} {i : Instr} (h : decodeWord op = some i) : encodeWord i = op := by
  rcases decodeWord_cases op with ⟨_, hd⟩ | ⟨_, j, hd, hj⟩
  · simp [hd] at h
  · rw [hd] at h
    cases h
    exact hj

/-- RES_MODE's three bits keep the code of a mode (spec/10_state.md R30). -/
theorem modeOf_low_bits {c : Byte} {m : AncMode} (h : modeOf c = some m) :
    (modeOf ((c.extractLsb' 0 3).setWidth 8)).isSome = true := by
  have hall : ∀ c : Byte, (modeOf c).isSome = true → (modeOf ((c.extractLsb' 0 3).setWidth 8)).isSome = true := by
    decide
  exact hall c (by simp [h])

theorem ne_reader_of_unit {op : Byte} (h : (unitField op).toNat ≤ 1) :
    op ≠ 0x20 ∧ op ≠ 0x21 ∧ op ≠ 0x22 ∧ op ≠ 0x23 ∧ op ≠ 0x30 ∧ op ≠ 0x31 := by
  refine ⟨?_, ?_, ?_, ?_, ?_, ?_⟩ <;> (rintro rfl; revert h; decide)

/-- An ENC operation is ENC_COMMON of a row, from every state (spec/40_encoder.md R100). -/
theorem exec_of_isEnc {i : Instr} (h : isEnc i = true) :
    ∃ row, ∀ s, exec i s = .next (encCommon (encodeWord i) row s) := by
  cases i
  case encQanc => exact ⟨0, fun _ => rfl⟩
  case encQfw => exact ⟨7, fun _ => rfl⟩
  case encQser => exact ⟨8, fun _ => rfl⟩
  case encSetancHigh => exact ⟨1, fun _ => rfl⟩
  case encSetancMid => exact ⟨2, fun _ => rfl⟩
  case encSetancLow => exact ⟨3, fun _ => rfl⟩
  case encSetancAdaptive => exact ⟨4, fun _ => rfl⟩
  case encSetancOff => exact ⟨5, fun _ => rfl⟩
  case encSetancTransparency => exact ⟨6, fun _ => rfl⟩
  all_goals exact absurd h (by decide)

/-- An ENC word always goes on with ENC_COMMON (spec/40_encoder.md R100). -/
theorem issueWord_of_isEnc {op : Byte} {i : Instr} (hd : decodeWord op = some i) (hi : isEnc i = true) :
    ∃ row, ∀ s, issueWord op s = .next (encCommon op row s) := by
  obtain ⟨row, hx⟩ := exec_of_isEnc hi
  refine ⟨row, fun s => ?_⟩
  rw [issueWord_eq, hd, ← encodeWord_of_decodeWord hd]
  exact hx s

/-- A slice has as many bytes as indices. -/
theorem State.rxSlice_length {s : State} {a n : Nat} {bytes : List Byte} (h : s.rxSlice a n = some bytes) :
    bytes.length = n := by
  simpa using (congrArg List.length (allValues_eq_some.mp h)).symm

/-! ### The cases of an issue -/

/-- `Issued op s t`: an issue of `op` in `s` can leave `t`. One case for each way an issue ends, with what the later
facts need of the checks passed; `issued_of_issueWord` ties it to the model. -/
inductive Issued : Byte → State → State → Prop
  /-- ILLEGAL_OP (spec/60_exceptions.md R205). -/
  | illegal {op : Byte} {s : State} (hr : reservedWord op = true) :
      Issued op s ((s.beginOp op).raise .illegalOp .keep)
  /-- A DEC operation fails (spec/41_decoder.md R131 to R134). -/
  | decFailed {i : Instr} {s : State} (k : ErrCode) (hi : isDec i = true)
      (hk : k = .invalidResponse ∨ k = .frameLength ∨ k = .sequence) :
      Issued (encodeWord i) s ((s.beginOp (encodeWord i)).raise k .clear)
  /-- CHK.VAL finds no trailer (spec/42_checksum.md R165). -/
  | chkFailed {s : State} :
      Issued (encodeWord .chkVal) s ((s.beginOp (encodeWord .chkVal)).raise .frameLength .keep)
  /-- An ENC operation (spec/40_encoder.md R100). -/
  | enc {i : Instr} {s : State} (row : Fin 9) (hi : isEnc i = true) :
      Issued (encodeWord i) s (encCommon (encodeWord i) row s)
  /-- DEC.ANC finds a mode (spec/41_decoder.md R131). -/
  | anc {s : State} (c : Byte) (m : AncMode) (hm : modeOf c = some m) :
      Issued (encodeWord .decAnc) s
        ({ s.beginOp (encodeWord .decAnc) with resMode := some (c.extractLsb' 0 3) }.succeed false .clear)
  /-- DEC.FWLEN latches a length (spec/41_decoder.md R132). -/
  | fwlen {s : State} (n : Byte) :
      Issued (encodeWord .decFwlen) s
        ({ s.beginOp (encodeWord .decFwlen) with
          resFwlen := some n, resRsize := some (BitVec.ofNat 9 (n.toNat + 2)) }.succeed false .set)
  /-- DEC.FWSTR or DEC.SER extracts a string (spec/41_decoder.md R133, R134). -/
  | str {i : Instr} {s : State} (bytes : List Byte) (n : Byte) (hi : i = .decFwstr ∨ i = .decSer)
      (hn : bytes.length = n.toNat) :
      Issued (encodeWord i) s
        ({ s.beginOp (encodeWord i) with resStr := some bytes, resStrlen := some n }.succeed false .clear)
  /-- CHK.GEN, or CHK.VAL on a trailer, which alone can set CRC_OK (spec/42_checksum.md R164, R165). -/
  | chk {i : Instr} {s : State} (c : Half) (ok : Bool) (hi : i = .chkGen ∨ i = .chkVal)
      (hok : ok = true → i = .chkVal) :
      Issued (encodeWord i) s ({ s.beginOp (encodeWord i) with resCrc := some c }.succeed ok .keep)

/-- Everything an operation can leave is one of the cases. -/
theorem issued_of_exec {i : Instr} {s t : State} (h : exec i s = .next t) : Issued (encodeWord i) s t := by
  rcases isEnc_or_reader i with hi | rfl | rfl | rfl | rfl | rfl | rfl
  · obtain ⟨row, hx⟩ := exec_of_isEnc hi
    rw [hx s] at h
    cases h
    exact .enc row hi
  · rcases decodeAnc_next h with ⟨_, rfl⟩ | ⟨_, c, _, _, rfl⟩ | ⟨_, c, m, _, hm, rfl⟩
    · exact .decFailed _ rfl (.inr (.inl rfl))
    · exact .decFailed _ rfl (.inl rfl)
    · exact .anc c m hm
  · rcases decodeFwlen_next h with ⟨_, rfl⟩ | ⟨_, n, _, rfl⟩
    · exact .decFailed _ rfl (.inr (.inl rfl))
    · exact .fwlen n
  · rcases decodeFwstr_next h with ⟨_, rfl⟩ | ⟨_, n, _, _, rfl⟩ | ⟨_, n, bytes, _, _, hs, rfl⟩
    · exact .decFailed _ rfl (.inr (.inr rfl))
    · exact .decFailed _ rfl (.inr (.inl rfl))
    · exact .str bytes n (.inl rfl) (State.rxSlice_length hs)
  · rcases decodeSer_next h with ⟨_, rfl⟩ | ⟨_, bytes, hs, rfl⟩
    · exact .decFailed _ rfl (.inr (.inl rfl))
    · exact .str bytes 16 (.inr rfl) (State.rxSlice_length hs)
  · obtain ⟨bytes, _, rfl⟩ := checksumGen_next h
    exact .chk _ false (.inl rfl) nofun
  · rcases checksumVal_next h with ⟨_, rfl⟩ | ⟨_, body, lo, hi, _, _, _, rfl⟩
    · exact .chkFailed
    · exact .chk _ _ (.inr rfl) fun _ => rfl

/-- Everything an issue can leave is one of the cases. -/
theorem issued_of_issueWord {op : Byte} {s t : State} (h : issueWord op s = .next t) : Issued op s t := by
  rcases issueWord_next h with ⟨hr, _, rfl⟩ | ⟨i, rfl, _, hx⟩
  · exact .illegal hr
  · exact issued_of_exec hx

namespace Issued

variable {op : Byte} {s t : State}

/-- OPR takes the word (spec/10_state.md R21). -/
theorem opr_eq (h : Issued op s t) : t.opr = op := by cases h <;> rfl

/-- An issue writes nothing of RXBUF, the host or the channel, and TXBUF only by an ENC operation
(spec/10_state.md R28, R29). -/
theorem frame (h : Issued op s t) : t.rxbuf = s.rxbuf ∧ t.rxlen = s.rxlen ∧ sameOutside s t ∧
    (t.txbuf = s.txbuf ∧ t.txlen = s.txlen ∨
      ∃ i row, op = encodeWord i ∧ isEnc i = true ∧ t.txbuf = Memory.ofBytes (romRead row).frame ∧
        t.txlen = BitVec.ofNat 4 (romRead row).flen) := by
  cases h with
  | @enc i _ row hi =>
    rw [encCommon_eq]
    exact ⟨rfl, rfl, by simp [sameOutside], .inr ⟨i, row, rfl, hi, rfl, rfl⟩⟩
  | _ => exact ⟨rfl, rfl, by simp [sameOutside], .inl ⟨rfl, rfl⟩⟩

/-- RES_FWLEN is written by a successful DEC.FWLEN alone, which gives it a value (spec/10_state.md R31). -/
theorem resFwlen_cases (h : Issued op s t) :
    t.resFwlen = s.resFwlen ∨ (op = 0x21 ∧ statusValid t.status = true ∧ t.resFwlen.isSome = true) := by
  cases h with
  | fwlen n => exact .inr ⟨rfl, by simp, rfl⟩
  | _ => exact .inl rfl

/-- An issue fails, with a code 1 to 4, VALID and CRC_OK 0 and nothing written but the error entry's registers, or
it succeeds, for the word of an operation only (spec/10_state.md R22 to R25; spec/60_exceptions.md R209). -/
theorem failed_or_succeeded (h : Issued op s t) :
    (∃ k f, t.status = statusWord k false false f ∧ k.code ≠ 0 ∧ k.code.toNat ≤ 4 ∧ t = opDone op t.status s) ∨
    (reservedWord op = false ∧ ∃ c f, t.status = statusWord .none true c f ∧ (c = true → op = 0x31)) := by
  cases h with
  | illegal hr => exact .inl ⟨.illegalOp, _, rfl, by decide, by decide, rfl⟩
  | decFailed k hi hk =>
    refine .inl ⟨k, _, rfl, ?_, ?_, rfl⟩ <;> rcases hk with rfl | rfl | rfl <;> decide
  | chkFailed => exact .inl ⟨.frameLength, _, rfl, by decide, by decide, rfl⟩
  | enc row hi => exact .inr ⟨reservedWord_encodeWord _, false, false, rfl, nofun⟩
  | anc c m hm => exact .inr ⟨reservedWord_encodeWord _, false, _, rfl, nofun⟩
  | fwlen n => exact .inr ⟨reservedWord_encodeWord _, false, _, rfl, nofun⟩
  | str bytes n hi hn => exact .inr ⟨reservedWord_encodeWord _, false, _, rfl, nofun⟩
  | chk c ok hi hok => exact .inr ⟨reservedWord_encodeWord _, ok, _, rfl, fun h => by rw [hok h]; rfl⟩

/-- VALID is 1 exactly when ERR is 0 (spec/10_state.md R23, R24). -/
theorem valid_iff (h : Issued op s t) : statusValid t.status = true ↔ statusErr t.status = 0 := by
  rcases h.failed_or_succeeded with ⟨k, f, hs, hk, _⟩ | ⟨_, c, f, hs, _⟩
  · simpa [hs] using hk
  · simp [hs, ErrCode.code]

/-- A reserved word never succeeds (spec/60_exceptions.md R205). -/
theorem not_reserved (h : Issued op s t) (hv : statusValid t.status = true) : reservedWord op = false := by
  rcases h.failed_or_succeeded with ⟨_, _, ht, _⟩ | ⟨hr, _⟩
  · simp [ht] at hv
  · exact hr

/-- A failed issue leaves no result register but RES_FWLEN a value (spec/10_state.md R37). -/
theorem no_results (h : Issued op s t) (hv : statusValid t.status = false) :
    t.resMode = none ∧ t.resStr = none ∧ t.resStrlen = none ∧ t.resCrc = none ∧ t.resRsize = none := by
  rcases h.failed_or_succeeded with ⟨k, f, _, _, _, ht⟩ | ⟨_, c, f, hs, _⟩
  · rw [ht]
    exact ⟨rfl, rfl, rfl, rfl, rfl⟩
  · simp [hs] at hv

/-- After a successful issue the result registers with values are those of the operation's rule
(spec/10_state.md R24, R37). -/
theorem results (h : Issued op s t) (hv : statusValid t.status = true) : t.resultsOfOpr := by
  cases h with
  | illegal hr => simp at hv
  | decFailed k hi hk => simp at hv
  | chkFailed => simp at hv
  | @enc i _ row hi =>
    have hu := unit_of_isEnc hi
    have := ne_reader_of_unit hu
    simp_all [State.resultsOfOpr, encCommon_eq]
  | anc c m hm => simp [State.resultsOfOpr, unitField]
  | fwlen n => simp [State.resultsOfOpr, unitField]
  | str bytes n hi hn => rcases hi with rfl | rfl <;> simp [State.resultsOfOpr, unitField]
  | chk c ok hi hok => rcases hi with rfl | rfl <;> simp [State.resultsOfOpr, unitField]

/-- The firmware-length latch after an issue: kept by a reserved word and a CHK operation, set by a successful
DEC.FWLEN, else cleared (spec/10_state.md R26). -/
theorem latch (h : Issued op s t) :
    ((∀ i, decodeWord op = some i → isChk i = true) ∧ statusFwlenValid t.status = statusFwlenValid s.status) ∨
    (op = 0x21 ∧ statusFwlenValid t.status = true ∧ statusValid t.status = true ∧ t.resFwlen.isSome = true) ∨
    ((∃ i, decodeWord op = some i ∧ isChk i = false) ∧ statusFwlenValid t.status = false ∧
      (op = 0x21 → statusValid t.status = false)) := by
  cases h with
  | illegal hr => exact .inl ⟨by simp [decodeWord_of_reserved hr], by simp [State.fwlenValid]⟩
  | @decFailed i _ k hi hk => exact .inr (.inr ⟨⟨i, by simp, isChk_of_isDec hi⟩, by simp⟩)
  | chkFailed => exact .inl ⟨by decide, by simp [State.fwlenValid]⟩
  | @enc i _ row hi =>
    exact .inr (.inr ⟨⟨i, by simp, isChk_of_isEnc hi⟩, by simp [encCommon_eq],
      fun h => absurd h (ne_reader_of_unit (unit_of_isEnc hi)).2.1⟩)
  | anc c m hm => exact .inr (.inr ⟨⟨.decAnc, by decide, rfl⟩, by simp⟩)
  | fwlen n => exact .inr (.inl ⟨rfl, by simp⟩)
  | str bytes n hi hn =>
    rcases hi with rfl | rfl <;> exact .inr (.inr ⟨⟨_, decodeWord_encodeWord _, rfl⟩, by simp⟩)
  | chk c ok hi hok => rcases hi with rfl | rfl <;> exact .inl ⟨by decide, by simp [State.fwlenValid]⟩

/-- A mode in RES_MODE is the inbound code of a mode (spec/10_state.md R30; spec/43_lookup_table.md R191). -/
theorem mode_legal (h : Issued op s t) (c : BitVec 3) (hc : t.resMode = some c) :
    (modeOf (c.setWidth 8)).isSome = true := by
  cases h with
  | anc b m hm =>
    cases hc
    exact modeOf_low_bits hm
  | _ => cases hc

/-- RES_STRLEN is the length of RES_STR (spec/10_state.md R32). -/
theorem str_length (h : Issued op s t) : t.resStr.map List.length = t.resStrlen.map BitVec.toNat := by
  cases h with
  | str bytes n hi hn => exact congrArg some hn
  | _ => rfl

/-- RES_RSIZE is at most 257, a stage-2 response with the longest string (spec/10_state.md R34). -/
theorem rsize_range (h : Issued op s t) (n : BitVec 9) (hn : t.resRsize = some n) : n.toNat ≤ 257 := by
  cases h with
  | enc row hi =>
    cases hn
    exact romRead_rsize_le row
  | fwlen b =>
    cases hn
    have := b.isLt
    simp only [BitVec.toNat_ofNat]
    omega
  | _ => cases hn

/-! ### An issue keeps the invariant -/

/-- The buffers of a state with the invariant stay filled and within capacity (spec/10_state.md R28, R29). -/
theorem buffers (h : Issued op s t) (hs : s.Inv) :
    t.txbuf.filled t.txlen.toNat ∧ t.txlen.toNat ≤ Config.txCap ∧
    t.rxbuf.filled t.rxlen.toNat ∧ t.rxlen.toNat ≤ Config.rxCap := by
  obtain ⟨hrx, hrl, _, htx⟩ := h.frame
  rw [hrx, hrl]
  rcases htx with ⟨hb, hl⟩ | ⟨i, row, _, _, hb, hl⟩
  · rw [hb, hl]
    exact ⟨hs.tx_filled, hs.tx_cap, hs.rx_filled, hs.rx_cap⟩
  · rw [hb, hl, romRead_flen_toNat]
    have hcap := (romRead_frame_length row).trans_le (romRead_flen_le row)
    exact ⟨Memory.ofBytes_filled _, hcap, hs.rx_filled, hs.rx_cap⟩

/-- A live firmware length has a value after an issue if it had one before (spec/10_state.md R26, R31). -/
theorem latch_value (h : Issued op s t) (hs : s.Inv) (hv : statusFwlenValid t.status = true) :
    t.resFwlen.isSome = true := by
  rcases h.latch with ⟨_, hk⟩ | ⟨_, _, _, hf⟩ | ⟨_, hl, _⟩
  · rcases h.resFwlen_cases with hf | ⟨_, _, hf⟩
    · rw [hf]
      exact hs.latch_value (hk ▸ hv)
    · exact hf
  · exact hf
  · simp [hl] at hv

/-- An issue keeps the invariant. -/
theorem inv (h : Issued op s t) (hs : s.Inv) : t.Inv where
  tx_filled := (h.buffers hs).1
  tx_cap := (h.buffers hs).2.1
  rx_filled := (h.buffers hs).2.2.1
  rx_cap := (h.buffers hs).2.2.2
  status_reserved := by
    rcases h.failed_or_succeeded with ⟨_, _, ht, _⟩ | ⟨_, _, _, ht, _⟩ <;> rw [ht] <;> exact statusWord_bit7 ..
  err_range := by
    rcases h.failed_or_succeeded with ⟨_, _, ht, _, hk, _⟩ | ⟨_, _, _, ht, _⟩
    · simpa [ht] using hk
    · simp [ht, ErrCode.code]
  valid_no_err := h.valid_iff.mp
  no_op_since_reset hv he := by simp [h.valid_iff.mpr he] at hv
  crc_ok_source := by
    rcases h.failed_or_succeeded with ⟨_, _, ht, _⟩ | ⟨_, c, _, ht, hc⟩
    · simp [ht]
    · simpa [ht, h.opr_eq] using hc
  latch_value := h.latch_value hs
  mode_legal := h.mode_legal
  str_length := h.str_length
  rsize_range := h.rsize_range
  valid_op hv := h.opr_eq ▸ h.not_reserved hv
  valid_results := h.results
  invalid_no_result := h.no_results

end Issued
end Sys2Proof.Machine
end

section
/-! SUPPORT. Progress: under the invariant no operation meets a register or byte without a value. -/

namespace Sys2Proof.Machine

/-- Under the invariant RXBUF holds a byte sequence of RXLEN bytes (spec/10_state.md R29). -/
theorem State.Inv.holdsRx {s : State} (h : s.Inv) : ∃ bytes, s.holdsRx bytes :=
  ⟨_, h.rx_filled.eq_ofBytes, h.rx_filled.length.symm⟩

section
variable {s : State} {bytes : List Byte}

/-- An index below RXLEN has a byte. -/
theorem State.holdsRx.rxByte (h : s.holdsRx bytes) {i : Nat} (hi : i < s.rxlen.toNat) : ∃ b, s.rxByte i = some b := by
  obtain ⟨hb, hl⟩ := h
  rw [State.rxByte_of_holds hb hl]
  exact ⟨_, List.getElem?_eq_getElem (hl ▸ hi)⟩

/-- A slice below RXLEN has its bytes. -/
theorem State.holdsRx.rxSlice (h : s.holdsRx bytes) {a n : Nat} (hn : a + n ≤ s.rxlen.toNat) :
    ∃ b, s.rxSlice a n = some b := by
  obtain ⟨hb, hl⟩ := h
  exact ⟨_, State.rxSlice_of_holds hb hl (hl ▸ hn)⟩

theorem decodeAnc_completes (h : s.holdsRx bytes) : ∃ t, decodeAnc s = .next t := by
  by_cases hl : s.rxlen.toNat = 16
  · obtain ⟨c, hc⟩ := h.rxByte (i := 9) (by omega)
    cases hm : modeOf c with
    | none => exact ⟨_, decodeAnc_of_no_mode hl hc hm⟩
    | some m => exact ⟨_, decodeAnc_of_mode hl hc hm⟩
  · exact ⟨_, decodeAnc_of_wrong_length hl⟩

theorem decodeFwlen_completes (h : s.holdsRx bytes) : ∃ t, decodeFwlen s = .next t := by
  by_cases hl : s.rxlen.toNat = 8
  · obtain ⟨n, hn⟩ := h.rxByte (i := 5) (by omega)
    exact ⟨_, decodeFwlen_of_byte hl hn⟩
  · exact ⟨_, decodeFwlen_of_wrong_length hl⟩

theorem decodeFwstr_completes (h : s.holdsRx bytes) (hf : s.fwlenValid = true → s.resFwlen.isSome = true) :
    ∃ t, decodeFwstr s = .next t := by
  cases hv : s.fwlenValid with
  | false => exact ⟨_, decodeFwstr_of_no_latch hv⟩
  | true =>
    obtain ⟨n, hn⟩ := Option.isSome_iff_exists.mp (hf hv)
    by_cases hl : s.rxlen.toNat = n.toNat + 2
    · obtain ⟨str, hs⟩ := h.rxSlice (a := 0) (n := n.toNat) (by omega)
      exact ⟨_, decodeFwstr_of_bytes hv hn hl hs⟩
    · exact ⟨_, decodeFwstr_of_wrong_length hv hn hl⟩

theorem decodeSer_completes (h : s.holdsRx bytes) : ∃ t, decodeSer s = .next t := by
  by_cases hl : s.rxlen.toNat = 47
  · obtain ⟨str, hs⟩ := h.rxSlice (a := 31) (n := 16) (by omega)
    exact ⟨_, decodeSer_of_bytes hl hs⟩
  · exact ⟨_, decodeSer_of_wrong_length hl⟩

theorem checksumGen_completes (h : s.holdsRx bytes) : ∃ t, checksumGen s = .next t := by
  obtain ⟨b, hb⟩ := h.rxSlice (a := 0) (n := s.rxlen.toNat) (by omega)
  exact ⟨_, checksumGen_of_bytes hb⟩

theorem checksumVal_completes (h : s.holdsRx bytes) : ∃ t, checksumVal s = .next t := by
  by_cases hl : 2 ≤ s.rxlen.toNat
  · obtain ⟨body, hb⟩ := h.rxSlice (a := 0) (n := s.rxlen.toNat - 2) (by omega)
    obtain ⟨lo, hlo⟩ := h.rxByte (i := s.rxlen.toNat - 2) (by omega)
    obtain ⟨hi, hhi⟩ := h.rxByte (i := s.rxlen.toNat - 1) (by omega)
    exact ⟨_, checksumVal_of_bytes hl hb hlo hhi⟩
  · exact ⟨_, checksumVal_of_wrong_length (by omega)⟩

end

/-- Under the invariant every operation goes on (spec/10_state.md R36). -/
theorem exec_completes (i : Instr) {s : State} (h : s.Inv) : ∃ t, exec i s = .next t := by
  obtain ⟨bytes, hb⟩ := h.holdsRx
  have hop : ∀ op, (s.beginOp op).holdsRx bytes := fun _ => hb
  rcases isEnc_or_reader i with hi | rfl | rfl | rfl | rfl | rfl | rfl
  · obtain ⟨row, hx⟩ := exec_of_isEnc hi
    exact ⟨_, hx s⟩
  · exact decodeAnc_completes (hop _)
  · exact decodeFwlen_completes (hop _)
  · exact decodeFwstr_completes (hop _) h.latch_value
  · exact decodeSer_completes (hop _)
  · exact checksumGen_completes (hop _)
  · exact checksumVal_completes (hop _)

/-- Under the invariant every word goes on (spec/30_encoding.md R76). -/
theorem issueWord_completes (op : Byte) {s : State} (h : s.Inv) : ∃ t, issueWord op s = .next t := by
  rw [issueWord_eq]
  cases decodeWord op with
  | none => exact ⟨_, rfl⟩
  | some i => exact exec_completes i h

end Sys2Proof.Machine
end

section
/-! SUPPORT. What a step can do to the FCB's registers: nothing, an issue, a load of RXBUF or a reset; and that each
keeps the invariant. -/

namespace Sys2Proof.Machine

/-- The FCB's registers alone: the state with the host's and the channel's fields at their reset values. -/
def State.fcb (s : State) : State :=
  { State.reset with
    opr := s.opr, status := s.status, txbuf := s.txbuf, txlen := s.txlen, rxbuf := s.rxbuf, rxlen := s.rxlen
    resMode := s.resMode, resFwlen := s.resFwlen, resStrlen := s.resStrlen, resStr := s.resStr, resCrc := s.resCrc
    resRsize := s.resRsize }

/-- The invariant is about the FCB's registers alone. -/
theorem State.inv_fcb {s : State} : s.fcb.Inv ↔ s.Inv :=
  ⟨fun h => ⟨h.1, h.2, h.3, h.4, h.5, h.6, h.7, h.8, h.9, h.10, h.11, h.12, h.13, h.14, h.15, h.16⟩,
    fun h => ⟨h.1, h.2, h.3, h.4, h.5, h.6, h.7, h.8, h.9, h.10, h.11, h.12, h.13, h.14, h.15, h.16⟩⟩

theorem State.Inv.of_fcb_eq {s t : State} (h : s.Inv) (ht : t.fcb = s.fcb) : t.Inv :=
  State.inv_fcb.mp (ht ▸ State.inv_fcb.mpr h)

/-- `FcbStep s t`: what a step from the FCB's registers of `s` can leave in `t`. -/
inductive FcbStep (s : State) : State → Prop
  /-- No register of the FCB is written. -/
  | quiet {t : State} (h : t.fcb = s.fcb) : FcbStep s t
  /-- An ISSUE, outside or inside an exchange. -/
  | issue {t u : State} (op : Byte) (hu : u.fcb = s.fcb) (h : issueWord op u = .next t) : FcbStep s t
  /-- An RX.LOAD, outside or inside an exchange. -/
  | load {u : State} (bytes : List Byte) (hu : u.fcb = s.fcb) (hn : bytes.length ≤ Config.rxCap) :
      FcbStep s (u.loadRx bytes)
  /-- The reset input. -/
  | reset {u : State} : FcbStep s u.resetFcb

theorem rxLoad_next {bytes : List Byte} {s t : State} (h : rxLoad bytes s = .next t) :
    bytes.length ≤ Config.rxCap ∧ t = s.loadRx bytes := by
  unfold rxLoad at h
  split at h
  · next hn => exact ⟨hn, (Host.Outcome.next.inj h).symm⟩
  · cases h

theorem txRead_next {s t : State} (h : txRead s = .next t) : ∃ bytes, s.txSlice = some bytes ∧
    t = { s with ret := .bytes bytes } := by
  unfold txRead at h
  split at h
  · next bytes hb => exact ⟨bytes, hb, (Host.Outcome.next.inj h).symm⟩
  · cases h

theorem readReg_next {r : HostReg} {s t : State} (h : readReg r s = .next t) : ∃ v, s.hostRead r = some v ∧
    t = { s with ret := v } := by
  unfold readReg at h
  split at h
  · next v hv => exact ⟨v, hv, (Host.Outcome.next.inj h).symm⟩
  · cases h

theorem supplyChannel_next {s t : State} (h : supplyChannel s = .next t) : t = { s with channel := .connected } := by
  unfold supplyChannel at h
  split at h
  · exact (Host.Outcome.next.inj h).symm
  · cases h
  · cases h

theorem returnMode_next {s t : State} (h : returnMode s = .next t) : ∃ r, t = s.endExchange r := by
  unfold returnMode at h
  split at h
  · split at h
    · cases h
    · split at h
      · exact ⟨_, (Host.Outcome.next.inj h).symm⟩
      · cases h
  · exact ⟨_, (Host.Outcome.next.inj h).symm⟩

/-- A CH.WRITE leaves the FCB's registers, however it ends (spec/60_exceptions.md R219). -/
theorem State.channelWrite_fcb {s t : State} {bytes : List Byte}
    (h : s.channelWrite bytes = .failed t ∨ ∃ b, s.channelWrite bytes = .done b t) : t.fcb = s.fcb := by
  rcases s.channelWrite_cases bytes with ⟨_, hw⟩ | ⟨_, hw⟩ | ⟨_, _, hw⟩ | ⟨_, _, _, hw⟩ | ⟨_, _, _, hw⟩
  all_goals
    rw [hw] at h
    rcases h with h | ⟨_, h⟩ <;> cases h <;> rfl

/-- A CH.READ leaves the FCB's registers, however it ends (spec/60_exceptions.md R220). -/
theorem State.channelRead_fcb {s t : State} {n : Nat}
    (h : s.channelRead n = .failed t ∨ ∃ b, s.channelRead n = .done b t) : t.fcb = s.fcb := by
  rcases s.channelRead_cases n with
    ⟨_, hr⟩ | ⟨_, hr⟩ | ⟨_, _, hr⟩ | ⟨_, _, _, _, _, hr⟩ | ⟨_, _, _, _, _, hr⟩
  all_goals
    rw [hr] at h
    rcases h with h | ⟨_, h⟩ <;> cases h <;> rfl

/-- CH.WRITE outside an exchange, when it goes on (spec/60_exceptions.md R219). -/
theorem chWrite_fcb {bytes : List Byte} {before s t : State} (h : chWrite bytes before s = .next t)
    (hb : before.fcb = s.fcb) : t.fcb = s.fcb := by
  unfold chWrite at h
  split at h
  · cases h
  · cases h
    exact hb
  · next hw =>
    have hu := State.channelWrite_fcb (.inl hw)
    cases h
    exact hu
  · next hw =>
    have hu := State.channelWrite_fcb (.inr ⟨_, hw⟩)
    cases h
    exact hu

/-- CH.READ outside an exchange, when it goes on (spec/60_exceptions.md R220). -/
theorem chRead_fcb {n : Nat} {before s t : State} (h : chRead n before s = .next t)
    (hb : before.fcb = s.fcb) : t.fcb = s.fcb := by
  unfold chRead at h
  split at h
  · cases h
  · cases h
    exact hb
  · next hr =>
    have hu := State.channelRead_fcb (.inl hr)
    cases h
    exact hu
  · next hr =>
    have hu := State.channelRead_fcb (.inr ⟨_, hr⟩)
    cases h
    exact hu

/-- What an input can leave of the FCB's registers (spec/60_exceptions.md R218; spec/70_reset_and_hazards.md R240). -/
theorem inputStep_fcbStep {a : Input} {before s t : State} (h : inputStep a before s = .next t)
    (hb : before.fcb = s.fcb) : FcbStep s t := by
  cases a with
  | issue op => exact .issue op rfl h
  | rxLoad bytes =>
    obtain ⟨hn, rfl⟩ := rxLoad_next h
    exact .load bytes rfl hn
  | txRead =>
    obtain ⟨_, _, rfl⟩ := txRead_next h
    exact .quiet rfl
  | chWrite bytes => exact .quiet (chWrite_fcb h hb)
  | chRead n => exact .quiet (chRead_fcb h hb)
  | readReg r =>
    obtain ⟨_, _, rfl⟩ := readReg_next h
    exact .quiet rfl
  | exchange e =>
    cases h
    exact .quiet rfl
  | reset =>
    cases h
    exact .reset
  | channelUp =>
    rw [supplyChannel_next h]
    exact .quiet rfl

/-- What a line of an exchange can leave of the FCB's registers (spec/60_exceptions.md R222 to R226). -/
theorem exchangeStep_fcbStep {x : ExchangeStep} {before s t : State} (h : exchangeStep x before s = .next t)
    (hb : before.fcb = s.fcb) : FcbStep s t := by
  cases x with
  | issue op => exact .issue op rfl h
  | txRead =>
    simp only [exchangeStep] at h
    split at h
    · cases h
      exact .quiet rfl
    · cases h
  | chWrite =>
    simp only [exchangeStep] at h
    split at h
    · cases h
    · cases h
      exact .quiet hb
    · next hw =>
      have hu := State.channelWrite_fcb (.inl hw)
      cases h
      exact .quiet hu
    · next hw =>
      have hu := State.channelWrite_fcb (.inr ⟨_, hw⟩)
      cases h
      exact .quiet hu
  | chRead =>
    simp only [exchangeStep] at h
    split at h
    · cases h
    · split at h
      · cases h
      · cases h
        exact .quiet hb
      · next hr =>
        have hu := State.channelRead_fcb (.inl hr)
        cases h
        exact .quiet hu
      · next hr =>
        have hu := State.channelRead_fcb (.inr ⟨_, hr⟩)
        cases h
        exact .quiet hu
  | rxLoad =>
    obtain ⟨hn, rfl⟩ := rxLoad_next h
    exact .load _ rfl hn
  | takeFirmware =>
    simp only [exchangeStep] at h
    split at h
    · cases h
      exact .quiet rfl
    · cases h
  | takeSerial =>
    simp only [exchangeStep] at h
    split at h
    · cases h
      exact .quiet rfl
    · cases h
  | returnMode =>
    obtain ⟨_, rfl⟩ := returnMode_next h
    exact .quiet rfl
  | returnUnit =>
    cases h
    exact .quiet rfl
  | returnInfo =>
    cases h
    exact .quiet rfl

/-- Taking the line or the input off changes no register of the FCB. -/
theorem FcbStep.of_fcb_eq {s u t : State} (h : FcbStep u t) (hu : u.fcb = s.fcb) : FcbStep s t := by
  cases h with
  | quiet h => exact .quiet (h.trans hu)
  | issue op hv h => exact .issue op (hv.trans hu) h
  | load bytes hv hn => exact .load bytes (hv.trans hu) hn
  | reset => exact .reset

/-- Everything a step can do to the FCB's registers (spec/60_exceptions.md R217, R226). -/
theorem fcbStep_of_step {s t : State} (h : step s = .next t) : FcbStep s t := by
  unfold step at h
  cases hx : s.script with
  | cons x rest =>
    rw [machineStep_script hx] at h
    exact (exchangeStep_fcbStep h rfl).of_fcb_eq rfl
  | nil =>
    cases hi : s.inputs with
    | cons a rest =>
      rw [machineStep_input hx hi] at h
      exact (inputStep_fcbStep h rfl).of_fcb_eq rfl
    | nil =>
      rw [machineStep_idle hx hi] at h
      cases h
      exact .quiet rfl

/-- The reset state meets the invariant (spec/10_state.md R41). -/
theorem State.inv_reset : State.reset.Inv where
  tx_filled := rfl
  tx_cap := by decide
  rx_filled := rfl
  rx_cap := by decide
  status_reserved := rfl
  err_range := by decide
  valid_no_err := by decide
  no_op_since_reset _ _ := rfl
  crc_ok_source := by decide
  latch_value := by decide
  mode_legal := nofun
  str_length := rfl
  rsize_range := nofun
  valid_op := by decide
  valid_results hv := absurd hv (by decide)
  invalid_no_result _ := ⟨rfl, rfl, rfl, rfl, rfl⟩

/-- A load within the capacity keeps the invariant (spec/10_state.md R29). -/
theorem State.Inv.loadRx {s : State} (h : s.Inv) {bytes : List Byte} (hn : bytes.length ≤ Config.rxCap) :
    (s.loadRx bytes).Inv :=
  have hl : (BitVec.ofNat 9 bytes.length).toNat = bytes.length := by
    rw [Config.rxCap] at hn
    rw [BitVec.toNat_ofNat, Nat.mod_eq_of_lt (by omega)]
  { tx_filled := h.tx_filled, tx_cap := h.tx_cap
    rx_filled := by rw [State.loadRx_rxlen, hl]; exact Memory.ofBytes_filled bytes
    rx_cap := by rw [State.loadRx_rxlen, hl]; exact hn
    status_reserved := h.status_reserved, err_range := h.err_range, valid_no_err := h.valid_no_err
    no_op_since_reset := h.no_op_since_reset, crc_ok_source := h.crc_ok_source, latch_value := h.latch_value
    mode_legal := h.mode_legal, str_length := h.str_length, rsize_range := h.rsize_range, valid_op := h.valid_op
    valid_results := h.valid_results, invalid_no_result := h.invalid_no_result }

/-- Each case of a step keeps the invariant. -/
theorem FcbStep.inv {s t : State} (h : FcbStep s t) (hs : s.Inv) : t.Inv := by
  cases h with
  | quiet h => exact hs.of_fcb_eq h
  | issue op hu h => exact (issued_of_issueWord h).inv (hs.of_fcb_eq hu)
  | load bytes hu hn => exact (hs.of_fcb_eq hu).loadRx hn
  | reset => exact State.inv_reset.of_fcb_eq rfl

/-! ### Host reads -/

/-- A host read that is the next input: the register's value, or the fault of NOVALUE (spec/10_state.md R36, R39). -/
theorem step_readReg_some {s : State} {r : HostReg} {v : HostValue} {rest : List Input} (h : s.script = [])
    (hi : s.inputs = .readReg r :: rest) (hv : s.hostRead r = some v) :
    step s = .next { s with inputs := rest, ret := v } := by
  apply step_input h hi
  have hr : ({ s with inputs := rest } : State).hostRead r = some v := hv
  simp [inputStep, readReg, hr]

theorem step_readReg_none {s : State} {r : HostReg} {rest : List Input} (h : s.script = [])
    (hi : s.inputs = .readReg r :: rest) (hv : s.hostRead r = none) : step s = .fault (.readNoValue r) := by
  have hr : ({ s with inputs := rest } : State).hostRead r = none := hv
  have hs : step s = readReg r { s with inputs := rest } := machineStep_input h hi
  rw [hs]
  simp [readReg, hr]

end Sys2Proof.Machine
end

section
/-! SUPPORT. The statements of spec/10_state.md settled. -/

namespace Sys2Proof.Machine

/-- Settles O36: a step is quiet on the FCB's registers, an issue, a load or a reset, and each keeps the invariant. -/
theorem stepKeepsTheInvariant : Obligations.StepKeepsTheInvariant :=
  fun _ _ hs h => (fcbStep_of_step h).inv hs

/-- Settles O37: progress by the values the invariant gives the operands, preservation by the cases of an issue. -/
theorem everyWordCompletesUnderTheInvariant : Obligations.EveryWordCompletesUnderTheInvariant := by
  intro op s hs
  obtain ⟨t, ht⟩ := issueWord_completes op hs
  have hI := issued_of_issueWord ht
  exact ⟨t, ht, hI.opr_eq, hI.inv hs⟩

/-- Settles O31, by the three ways an issue leaves the latch. -/
theorem latchFollowsEachOperation : Obligations.LatchFollowsEachOperation := by
  intro op s t h
  simp only [decode_singleton_eq_ok]
  rcases (issued_of_issueWord h).latch with ⟨hchk, hkeep⟩ | ⟨rfl, hset, hv, hf⟩ | ⟨⟨j, hj, hjc⟩, hclear, hlen⟩
  · refine ⟨fun _ => hkeep, fun i hi => ⟨?_, ?_, fun _ => hkeep⟩⟩
    · rintro rfl
      exact absurd (hchk _ hi) (by decide)
    · intro _ hfam
      have := hchk i hi
      rcases hfam with he | hd
      · simp [isChk_of_isEnc he] at this
      · simp [isChk_of_isDec hd] at this
  · refine ⟨fun hr => absurd hr (by decide), fun i hi => ?_⟩
    have hi : i = .decFwlen := by simpa using hi.symm.trans (decodeWord_encodeWord .decFwlen)
    subst hi
    exact ⟨fun _ => ⟨hset.trans hv.symm, fun _ => hf⟩, fun hne => absurd rfl hne, fun hc => absurd hc (by decide)⟩
  · refine ⟨fun hr => by simp [decodeWord_of_reserved hr] at hj, fun i hi => ?_⟩
    have hi : i = j := Option.some.inj (hi.symm.trans hj)
    subst hi
    refine ⟨?_, fun _ _ => hclear, fun hc => by simp [hc] at hjc⟩
    rintro rfl
    have hv := hlen (encodeWord_of_decodeWord hj).symm
    exact ⟨hclear.trans hv.symm, fun hv' => by simp [hv] at hv'⟩

/-- Settles O32: with VALID by the results of OPR's rule, without it because no result holds a value. -/
theorem onlyTheOperationsResultsHoldValues : Obligations.OnlyTheOperationsResultsHoldValues := by
  intro op s t h
  have hI := issued_of_issueWord h
  refine ⟨hI.opr_eq, hI.valid_iff, ?_⟩
  cases hv : statusValid t.status with
  | true =>
    obtain ⟨hmode, hstr, hlen, hcrc, hsize, _⟩ := hI.results hv
    rw [hI.opr_eq] at hmode hstr hlen hcrc hsize
    rw [exists_enc_iff_unit (hI.not_reserved hv)]
    simp [hmode, hstr, hlen, hcrc, hsize]
  | false =>
    obtain ⟨hmode, hstr, hlen, hcrc, hsize⟩ := hI.no_results hv
    have henc : ¬ ∃ i, decode [op] = .ok (i, []) ∧ isEnc i = true := by
      rintro ⟨i, hi, he⟩
      obtain ⟨row, hx⟩ := issueWord_of_isEnc (decode_singleton_eq_ok.mp hi) he
      cases h.symm.trans (hx s)
      simp [encCommon_eq] at hv
    simp [hmode, hstr, hlen, hcrc, hsize, henc]

/-- Settles O33, by the frame of an issue; the operation map tells an ENC word from the others. -/
theorem operationFrame : Obligations.OperationFrame := by
  intro op s t h
  have hI := issued_of_issueWord h
  obtain ⟨hrx, hrl, hout, htx⟩ := hI.frame
  refine ⟨fun j => by rw [hrx], hrx, hrl, hout, fun hne => ?_, fun hor => ?_⟩
  · rcases htx with ⟨hb, hl⟩ | ⟨i, row, rfl, hi, _⟩
    · exact ⟨fun j => by rw [hb], hb, hl⟩
    · have := hne i (decode_singleton_eq_ok.mpr (decodeWord_encodeWord i))
      simp [hi] at this
  · rcases hI.resFwlen_cases with hf | ⟨hop, hv, _⟩
    · exact hf
    · rcases hor with hop' | hv'
      · exact absurd hop hop'
      · simp [hv] at hv'

/-- Settles O40: a failed issue leaves none of the five registers a value, and such a read is the fault. -/
theorem readOfAResultAfterAnErrorFaults : Obligations.ReadOfAResultAfterAnErrorFaults := by
  rintro op s t u r rest h he hr rfl
  have hI := issued_of_issueWord h
  have hv : statusValid t.status = false := by simpa using mt hI.valid_iff.mp he
  obtain ⟨hmode, hstr, hlen, hcrc, hsize⟩ := hI.no_results hv
  refine step_readReg_none rfl rfl ?_
  simp only [List.mem_cons, List.not_mem_nil, or_false] at hr
  rcases hr with rfl | rfl | rfl | rfl | rfl <;> simp [State.hostRead, *]

/-- Settles O8. -/
theorem resetLeavesTheListedValues : Obligations.ResetLeavesTheListedValues := by
  refine ⟨fun s => ?_, rfl, fun s rest h hi => step_input h hi rfl⟩
  simp [sameOutside, Memory.read]

/-- Settles O35. -/
theorem resetSatisfiesTheInvariant : Obligations.ResetSatisfiesTheInvariant := State.inv_reset

/-- Settles O41: each read gives the register's value in one step. -/
theorem hostReadReturnsTheRegister : Obligations.HostReadReturnsTheRegister := by
  intro s rest h
  refine ⟨fun hi => step_readReg_some h hi rfl, fun hi => step_readReg_some h hi rfl,
    fun hi => step_readReg_some h hi rfl, fun hi => step_readReg_some h hi rfl, fun j b hi hb hj => ?_,
    fun j b hi hb hj => ?_, fun c hi hc => ?_, fun n hi hn => ?_, fun n hi hn => ?_, fun str hi hs => ?_,
    fun c hi hc => ?_, fun n hi hn => ?_⟩
  all_goals
    refine step_readReg_some h hi ?_
    simp [State.hostRead, State.rxByte, State.txByte, *]

/-- Settles O52: each read finds NOVALUE, the bytes from a buffer's length up whatever the store holds. -/
theorem hostReadOfNoValueFaults : Obligations.HostReadOfNoValueFaults := by
  intro s rest h
  refine ⟨fun j hi hj => ?_, fun j hi hj => ?_, fun hi hn => ?_, fun hi hn => ?_, fun hi hn => ?_, fun hi hn => ?_,
    fun hi hn => ?_, fun hi hn => ?_⟩
  · refine step_readReg_none h hi ?_
    simp [State.hostRead, State.txByte, Nat.not_lt.mpr hj]
  · refine step_readReg_none h hi ?_
    simp [State.hostRead, State.rxByte, Nat.not_lt.mpr hj]
  all_goals
    refine step_readReg_none h hi ?_
    simp [State.hostRead, hn]

end Sys2Proof.Machine
end

section
/-! SUPPORT. The assembler on the mnemonics: a mnemonic is one word of its line, it names no host action, and it
stands once in the operation map (spec/30_encoding.md R74, R88). -/

namespace Sys2Proof.Machine

/-! ### The words of a line -/

/-- Letters other than a space join the word read so far. -/
theorem lineWords_of_no_space {l : List Char} (h : ' ' ∉ l) (w : List Char) :
    lineWords w l = lineWords (l.reverse ++ w) [] := by
  induction l generalizing w with
  | nil => rfl
  | cons c t ih =>
    obtain ⟨hc, ht⟩ := List.ne_and_not_mem_of_not_mem_cons h
    have hstep : lineWords w (c :: t) = lineWords (c :: w) t := if_neg hc.symm
    simp [hstep, ih ht]

theorem lineWords_single {l : List Char} (hne : l ≠ []) (h : ' ' ∉ l) : lineWords [] l = [l] := by
  simp [lineWords_of_no_space h, lineWords, hne]

/-- A line of one word, with no comment, is that word's host action. -/
theorem parseLine_single {line : String} (hne : line.toList ≠ []) (hspace : ' ' ∉ line.toList)
    (hcomment : ';' ∉ line.toList) : parseLine line = (parseWords [line.toList]).map some := by
  have hall : line.toList.takeWhile (· ≠ ';') = line.toList := by
    rw [List.takeWhile_eq_self_iff]
    intro c hc
    simpa using ne_of_mem_of_not_mem hc hcomment
  rw [parseLine, hall, lineWords_single hne hspace]

/-! ### The mnemonics -/

theorem mnemonic_is_word (i : Instr) :
    (mnemonic i).toList ≠ [] ∧ ' ' ∉ (mnemonic i).toList ∧ ';' ∉ (mnemonic i).toList := by
  cases i <;> decide

theorem mnemonic_ne_hostAction (i : Instr) : (mnemonic i).toList ≠ "RX.LOAD".toList ∧
    (mnemonic i).toList ≠ "CH.WRITE".toList ∧ (mnemonic i).toList ≠ "TX.READ".toList := by
  cases i <;> decide

theorem mem_allOperations (i : Instr) : i ∈ allOperations := by
  cases i <;> decide

theorem mnemonics_nodup : (allOperations.map mnemonic).Nodup := by
  decide

theorem mnemonic_injective : Function.Injective mnemonic := fun i j h =>
  List.inj_on_of_nodup_map mnemonics_nodup (mem_allOperations i) (mem_allOperations j) h

/-- Looking a mnemonic up in the operation map finds its operation: some entry has it, and only one. -/
theorem find_mnemonic (i : Instr) :
    (allOperations.find? fun j => (mnemonic j).toList = (mnemonic i).toList) = some i := by
  obtain ⟨j, hj⟩ := Option.isSome_iff_exists.mp
    (List.find?_isSome (p := fun j => (mnemonic j).toList = (mnemonic i).toList).mpr ⟨i, mem_allOperations i, by simp⟩)
  have hji : mnemonic j = mnemonic i := by simpa [String.toList_inj] using List.find?_some hj
  rw [hj, mnemonic_injective hji]

theorem parseWords_mnemonic (i : Instr) :
    parseWords [(mnemonic i).toList] = some (.issue (encodeWord i)) := by
  obtain ⟨hload, hwrite, hread⟩ := mnemonic_ne_hostAction i
  rw [parseWords, if_neg hload, if_neg hwrite]
  simp only [if_neg hread, find_mnemonic, Option.map_some]

theorem parseLine_mnemonic (i : Instr) : parseLine (mnemonic i) = some (some (.issue (encodeWord i))) := by
  obtain ⟨hne, hspace, hcomment⟩ := mnemonic_is_word i
  rw [parseLine_single hne hspace hcomment, parseWords_mnemonic, Option.map_some]

theorem parseProgram_cons_action {line : String} {a : Input} {t : List String} {p : List Input}
    (hl : parseLine line = some (some a)) (ht : parseProgram t = some p) :
    parseProgram (line :: t) = some (a :: p) := by
  simp [parseProgram, hl, ht]

end Sys2Proof.Machine
end

section
/-! SUPPORT. The statements of spec/30_encoding.md settled. -/

namespace Sys2Proof.Machine

/-- Settles O5, by induction on the program: each line is its mnemonic's issue. -/
theorem programOfMnemonicsIssuesItsWords : Obligations.ProgramOfMnemonicsIssuesItsWords := by
  intro is
  induction is with
  | nil => rfl
  | cons i t ih => exact parseProgram_cons_action (parseLine_mnemonic i) ih

/-- Settles O1: the map reads the encoded word back, and `decode` takes that one byte. -/
theorem decodeOfEncodeIsTheOperation : Obligations.DecodeOfEncodeIsTheOperation := by
  intro i rest
  simp [encode, decode]

/-- Settles O2, by the two cases of the operation map: reserved and unread, or read as the operation it encodes. -/
theorem decodeRefusesExactlyReservedWords : Obligations.DecodeRefusesExactlyReservedWords := by
  intro w
  rcases decodeWord_cases w with ⟨hr, hd⟩ | ⟨hr, i, hd, hi⟩
  · simp [hr, decode, hd]
  · simpa [hr] using ⟨i, decode_singleton_eq_ok.mpr hd, by rw [encode, hi]⟩

/-- Settles O3: four of the words are encodings, the fifth is reserved. -/
theorem sampleWordsDecode : Obligations.SampleWordsDecode :=
  ⟨decodeOfEncodeIsTheOperation .encQser [], decodeOfEncodeIsTheOperation .encSetancTransparency [],
    decodeOfEncodeIsTheOperation .decFwstr [], decodeOfEncodeIsTheOperation .chkVal [],
    (decodeRefusesExactlyReservedWords 0x16).1 (by decide)⟩

end Sys2Proof.Machine
end

section
/-! SUPPORT. What ENC_COMMON leaves in TXBUF and what the host then reads of it, and the layout of an assembled
frame. -/

namespace Sys2Proof.Machine

/-! ### TXBUF and the host's reads of it -/

/-- TX.READ gives the bytes TXBUF holds (spec/60_exceptions.md R218). -/
theorem txRead_of_holds {s : State} {bytes : List Byte} (hb : s.txbuf = Memory.ofBytes bytes)
    (hl : s.txlen.toNat = bytes.length) : txRead s = .next { s with ret := .bytes bytes } := by
  simp [txRead, State.txSlice_of_holds hb hl]

/-- A host read of TXBUF from TXLEN up is a fault, whatever the store holds there (spec/10_state.md R28, R36). -/
theorem readReg_txbuf_of_txlen_le {s : State} {j : Nat} (h : s.txlen.toNat ≤ j) :
    readReg (.txbuf j) s = .fault (.readNoValue (.txbuf j)) := by
  simp [readReg, State.hostRead, State.txByte, Nat.not_lt.mpr h]

/-! ### ENC_COMMON -/

section
variable (op : Byte) (row : Fin 9) (s : State)

@[simp] theorem encCommon_txbuf : (encCommon op row s).txbuf = Memory.ofBytes (romRead row).frame := by
  rw [encCommon_eq]

@[simp] theorem encCommon_txlen : (encCommon op row s).txlen = BitVec.ofNat 4 (romRead row).flen := by
  rw [encCommon_eq]

@[simp] theorem encCommon_resRsize : (encCommon op row s).resRsize = some (romRead row).rsize := by
  rw [encCommon_eq]

@[simp] theorem encCommon_status : (encCommon op row s).status = 0x10 := by
  rw [encCommon_eq]
  rfl

theorem encCommon_txlen_toNat : (encCommon op row s).txlen.toNat = (romRead row).frame.length := by
  rw [encCommon_txlen, romRead_flen_toNat]

/-- TX.READ after ENC_COMMON gives the row's frame. -/
theorem txRead_encCommon : txRead (encCommon op row s) =
    .next { encCommon op row s with ret := .bytes (romRead row).frame } :=
  txRead_of_holds (encCommon_txbuf op row s) (encCommon_txlen_toNat op row s)

/-- ENC_COMMON leaves no byte from TXLEN up, however long the frame before it was (spec/40_encoder.md R112). -/
theorem encCommon_txbuf_read_of_txlen_le {j : Nat} (h : (encCommon op row s).txlen.toNat ≤ j) :
    (encCommon op row s).txbuf.read j = none := by
  rw [encCommon_txlen_toNat] at h
  rw [encCommon_txbuf, Memory.read_ofBytes, List.getElem?_eq_none h]

end

/-- An operation that is ENC_COMMON of a row builds that row's frame. -/
theorem encBuilds_of_encCommon {i : Instr} {row : Fin 9}
    (h : ∀ s, exec i s = .next (encCommon (encodeWord i) row s)) :
    encBuilds i (encodeWord i) row (romRead row).frame (romRead row).rsize := by
  refine ⟨decode_singleton_eq_ok.mpr (decodeWord_encodeWord i), rfl, rfl, fun s => ?_⟩
  refine ⟨_, h s, txRead_encCommon _ row s, ?_⟩
  rw [encCommon_eq, romRead_frame_length]
  rfl

/-! ### The set-ANC words -/

/-- The word of a mode is ENC_COMMON of the mode's row (spec/43_lookup_table.md R192). -/
theorem issueWord_setAncWord (m : AncMode) (s : State) :
    issueWord (setAncWord m) s = .next (encCommon (setAncWord m) (rowOf m) s) := by
  cases m <;> rfl

/-- Every set-ANC frame has 13 bytes (spec/40_encoder.md R103 to R108). -/
theorem romRead_rowOf_flen (m : AncMode) : (romRead (rowOf m)).flen = 13 := by
  cases m <;> rfl

/-! ### The layout of an assembled frame -/

section
variable (cls : Half) (opc : Byte) (payload : List Byte)

/-- N = 10 + LEN (spec/30_encoding.md R84). -/
theorem assemble_length : (assemble cls opc payload).length = 10 + payload.length := by
  simp [assemble, lowFirst]
  omega

/-- The frame starts with SYNC (spec/30_encoding.md R77, R78). -/
theorem assemble_sync : (assemble cls opc payload).take 3 = [0x55, 0x60, 0x01] := rfl

/-- LEN, the payload's length, stands at byte 5 (spec/30_encoding.md R77, R80). -/
theorem assemble_len : (assemble cls opc payload)[5]? = some (BitVec.ofNat 8 payload.length) := rfl

/-- LENH, always 0, stands at byte 6 (spec/30_encoding.md R77, R80). -/
theorem assemble_lenh : (assemble cls opc payload)[6]? = some 0x00 := rfl

/-- OPC stands at byte 7 (spec/30_encoding.md R77). -/
theorem assemble_opc : (assemble cls opc payload)[7]? = some opc := rfl

end

/-- Each row's FRAME is ASSEMBLE of its CLASS, OPC and PAYLOAD, trailer included (spec/40_encoder.md R101). -/
theorem assemble_romRead (row : Fin 9) :
    assemble (romRead row).cls (romRead row).opc (romRead row).payload = (romRead row).frame := by
  revert row
  decide +kernel

/-- PLEN is the length of PAYLOAD (spec/43_lookup_table.md R180). -/
theorem romRead_payload_length (row : Fin 9) : (romRead row).payload.length = (romRead row).plen.toNat := by
  fin_cases row <;> rfl

end Sys2Proof.Machine
end

section
/-! SUPPORT. The statements of spec/40_encoder.md settled. -/

namespace Sys2Proof.Machine

/-- Settles O10: each query operation is ENC_COMMON of its row. -/
theorem encQueryBuildsItsFrame : Obligations.EncQueryBuildsItsFrame :=
  ⟨encBuilds_of_encCommon fun _ => rfl, encBuilds_of_encCommon fun _ => rfl, encBuilds_of_encCommon fun _ => rfl⟩

/-- Settles O11: each set-ANC operation is ENC_COMMON of its row, and 0x16 is one of the reserved words. -/
theorem encSetAncBuildsItsFrame : Obligations.EncSetAncBuildsItsFrame :=
  ⟨(decodeRefusesExactlyReservedWords 0x16).1 (by decide),
    encBuilds_of_encCommon fun _ => rfl, encBuilds_of_encCommon fun _ => rfl, encBuilds_of_encCommon fun _ => rfl,
    encBuilds_of_encCommon fun _ => rfl, encBuilds_of_encCommon fun _ => rfl, encBuilds_of_encCommon fun _ => rfl⟩

/-- Settles O12: ENC_COMMON writes the four registers from the ROM row alone. -/
theorem encoderIsDeterministic : Obligations.EncoderIsDeterministic := by
  refine ⟨fun m s => ⟨_, issueWord_setAncWord m s, ?_, encCommon_txbuf ..⟩, fun i hi s₁ s₂ => ?_⟩
  · rw [encCommon_txlen, romRead_rowOf_flen]
    rfl
  · obtain ⟨row, hx⟩ := exec_of_isEnc hi
    refine ⟨_, _, hx s₁, hx s₂, ?_⟩
    simp

/-- Settles O13: ENC_COMMON writes TXBUF whole, so that past the frame nothing is left of the store before it. -/
theorem encLeavesNoStaleFrameBytes : Obligations.EncLeavesNoStaleFrameBytes := by
  intro i hi s
  obtain ⟨row, hx⟩ := exec_of_isEnc hi
  exact ⟨_, (romRead row).frame, hx s,
    fun j hj => ⟨encCommon_txbuf_read_of_txlen_le _ row s hj, readReg_txbuf_of_txlen_le hj⟩,
    txRead_encCommon _ row s, (encCommon_txlen_toNat _ row s).symm⟩

/-- Settles O14: the layout holds of every assembled frame, and each row's frame is assembled. -/
theorem romFramesAreAssembled : Obligations.RomFramesAreAssembled := by
  intro row
  have hframe := assemble_romRead row
  have hlen := romRead_frame_length row
  have hplen := romRead_payload_length row
  refine ⟨hframe, hlen, ?_, hplen, ?_⟩
  · rw [← hlen, ← hframe, assemble_length, hplen]
  · rw [← hframe]
    refine ⟨assemble_sync .., ?_, assemble_lenh .., assemble_opc ..⟩
    rw [assemble_len, hplen, BitVec.ofNat_toNat, BitVec.setWidth_eq]

end Sys2Proof.Machine
end

section
/-! SUPPORT. What each DEC operation answers, case by case, as the whole next state; and that two states that agree
on an operation's operands get the same answer. -/

namespace Sys2Proof.Machine

/-! ### The codes of the modes and the stage-2 size -/

/-- MODE_OF and CODE_OF are inverse (spec/43_lookup_table.md R191). -/
theorem modeOf_eq_some_iff {c : Byte} {m : AncMode} : modeOf c = some m ↔ codeOf m = c := by
  constructor
  · intro h
    unfold modeOf at h
    split at h <;> cases h <;> exact BitVec.eq_of_toNat_eq (Eq.symm ‹_›)
  · rintro rfl
    cases m <;> rfl

/-- The codes of the modes are the six R131 lists. -/
theorem mem_codes_iff {c : Byte} : c ∈ [0x01, 0x02, 0x03, 0x04, 0x05, 0x07] ↔ ∃ m, codeOf m = c := by
  constructor
  · simp only [List.mem_cons, List.not_mem_nil, or_false]
    rintro (rfl | rfl | rfl | rfl | rfl | rfl)
    exacts [⟨.high, rfl⟩, ⟨.mid, rfl⟩, ⟨.low, rfl⟩, ⟨.adaptive, rfl⟩, ⟨.off, rfl⟩, ⟨.transparency, rfl⟩]
  · rintro ⟨m, rfl⟩
    cases m <;> decide

/-- RES_MODE's three bits are the low bits of the byte (spec/41_decoder.md R131). -/
theorem extractLsb'_eq_setWidth (c : Byte) : c.extractLsb' 0 3 = c.setWidth 3 :=
  BitVec.eq_of_toNat_eq rfl

/-- RES_MODE's three bits hold any mode's code whole (spec/10_state.md R30). -/
theorem codeOf_low_bits (m : AncMode) : ((codeOf m).setWidth 3).setWidth 8 = codeOf m := by
  cases m <;> rfl

/-- A set-ANC frame carries the mode's code at its byte 9 (spec/43_lookup_table.md R192). -/
theorem romRead_rowOf_code (m : AncMode) : (romRead (rowOf m)).frame[9]? = some (codeOf m) := by
  cases m <;> rfl

/-- n + 2 does not wrap in RES_RSIZE's nine bits (spec/00_scope.md R10). -/
theorem toNat_stage2Size (n : Byte) : (BitVec.ofNat 9 (n.toNat + 2)).toNat = n.toNat + 2 := by
  have := n.isLt
  rw [BitVec.toNat_ofNat]
  omega

/-! ### What each operation answers -/

section
variable {s : State}

/-- An index below RXLEN reads the store (spec/10_state.md R29). -/
theorem State.rxByte_of_lt {i : Nat} (h : i < s.rxlen.toNat) : s.rxByte i = s.rxbuf.read i := if_pos h

/-- A failed DEC operation writes OPR, its error and nothing else, and clears the latch
(spec/10_state.md R26; spec/60_exceptions.md R209). -/
theorem next_opDone_of_raise {o : Host.Outcome State Fault Refusal} {op st : Byte} {k : ErrCode}
    (h : o = .next ((s.beginOp op).raise k .clear)) (hst : statusWord k false false false = st) :
    o = .next (opDone op st s) := by
  rw [h, State.raise_clear, hst]
  rfl

/-- A success that clears the latch leaves STATUS at 0x10 (spec/10_state.md R22 to R26). -/
theorem next_of_succeed_clear {o : Host.Outcome State Fault Refusal} (h : o = .next (s.succeed false .clear)) :
    o = .next { s with status := 0x10 } := by
  rw [h, State.succeed_clear]
  rfl

theorem exec_decAnc_of_wrong_length (h : s.rxlen ≠ 16) : exec .decAnc s = .next (opDone 0x20 0x02 s) :=
  next_opDone_of_raise (decodeAnc_of_wrong_length (s := s.beginOp 0x20) fun hl => h (BitVec.eq_of_toNat_eq hl)) rfl

theorem exec_decAnc_of_code {c : Byte} {m : AncMode} (h : s.rxlen = 16) (hc : s.rxbuf.read 9 = some c)
    (hm : modeOf c = some m) :
    exec .decAnc s = .next { opDone 0x20 0x10 s with resMode := some (c.setWidth 3) } := by
  have hb : s.rxByte 9 = some c := (State.rxByte_of_lt (by simp [h])).trans hc
  rw [← extractLsb'_eq_setWidth]
  exact next_of_succeed_clear (decodeAnc_of_mode (s := s.beginOp 0x20) (by simp [h]) hb hm)

theorem exec_decAnc_of_no_code {c : Byte} (h : s.rxlen = 16) (hc : s.rxbuf.read 9 = some c)
    (hm : modeOf c = none) : exec .decAnc s = .next (opDone 0x20 0x01 s) := by
  have hb : s.rxByte 9 = some c := (State.rxByte_of_lt (by simp [h])).trans hc
  exact next_opDone_of_raise (decodeAnc_of_no_mode (s := s.beginOp 0x20) (by simp [h]) hb hm) rfl

theorem exec_decFwlen_of_wrong_length (h : s.rxlen ≠ 8) : exec .decFwlen s = .next (opDone 0x21 0x02 s) :=
  next_opDone_of_raise (decodeFwlen_of_wrong_length (s := s.beginOp 0x21) fun hl => h (BitVec.eq_of_toNat_eq hl)) rfl

theorem exec_decFwlen_of_byte {n : Byte} (h : s.rxlen = 8) (hn : s.rxbuf.read 5 = some n) :
    exec .decFwlen s = .next
      { opDone 0x21 0x50 s with resFwlen := some n, resRsize := some (BitVec.ofNat 9 (n.toNat + 2)) } := by
  have hb : s.rxByte 5 = some n := (State.rxByte_of_lt (by simp [h])).trans hn
  have hx := decodeFwlen_of_byte (s := s.beginOp 0x21) (by simp [h]) hb
  rw [State.succeed_set] at hx
  exact hx

theorem exec_decFwstr_of_no_latch (h : statusFwlenValid s.status = false) :
    exec .decFwstr s = .next (opDone 0x22 0x03 s) :=
  next_opDone_of_raise (decodeFwstr_of_no_latch (s := s.beginOp 0x22) h) rfl

theorem exec_decFwstr_of_wrong_length {n : Byte} (h : statusFwlenValid s.status = true) (hn : s.resFwlen = some n)
    (hl : s.rxlen.toNat ≠ n.toNat + 2) : exec .decFwstr s = .next (opDone 0x22 0x02 s) :=
  next_opDone_of_raise (decodeFwstr_of_wrong_length (s := s.beginOp 0x22) h hn hl) rfl

theorem exec_decFwstr_of_bytes {n : Byte} {bytes : List Byte} (h : statusFwlenValid s.status = true)
    (hn : s.resFwlen = some n) (hb : s.holdsRx bytes) (hl : bytes.length = n.toNat + 2) :
    exec .decFwstr s = .next
      { opDone 0x22 0x10 s with resStr := some (bytes.take n.toNat), resStrlen := some n } := by
  obtain ⟨hbuf, hlen⟩ := hb
  have hs : s.rxSlice 0 n.toNat = some (bytes.take n.toNat) := State.rxSlice_of_holds hbuf hlen (by omega)
  exact next_of_succeed_clear (decodeFwstr_of_bytes (s := s.beginOp 0x22) h hn (hlen.trans hl) hs)

theorem exec_decSer_of_wrong_length (h : s.rxlen ≠ 47) : exec .decSer s = .next (opDone 0x23 0x02 s) :=
  next_opDone_of_raise (decodeSer_of_wrong_length (s := s.beginOp 0x23) fun hl => h (BitVec.eq_of_toNat_eq hl)) rfl

theorem exec_decSer_of_bytes {bytes : List Byte} (hb : s.holdsRx bytes) (hl : bytes.length = 47) :
    exec .decSer s = .next
      { opDone 0x23 0x10 s with resStr := some ((bytes.drop 31).take 16), resStrlen := some 16 } := by
  obtain ⟨hbuf, hlen⟩ := hb
  have hs : s.rxSlice 31 16 = some ((bytes.drop 31).take 16) := State.rxSlice_of_holds hbuf hlen (by omega)
  exact next_of_succeed_clear (decodeSer_of_bytes (s := s.beginOp 0x23) (hlen.trans hl) hs)

end

/-! ### States that agree on the operands -/

/-- The four DEC operations (spec/30_encoding.md R74). -/
theorem isDec_iff {i : Instr} :
    isDec i = true ↔ i = .decAnc ∨ i = .decFwlen ∨ i = .decFwstr ∨ i = .decSer := by
  cases i <;> decide

section
variable {s₁ s₂ t₁ : State}

/-- States with the same RXLEN that agree on a byte of the store agree on the byte of RXBUF. -/
theorem State.rxByte_congr (hl : s₁.rxlen = s₂.rxlen) {j : Nat} (hj : s₁.rxbuf.read j = s₂.rxbuf.read j) :
    s₁.rxByte j = s₂.rxByte j := by
  simp only [State.rxByte, hl, hj]

theorem State.rxSlice_congr (hl : s₁.rxlen = s₂.rxlen) {a n : Nat}
    (h : ∀ j ∈ List.range' a n, s₁.rxbuf.read j = s₂.rxbuf.read j) : s₁.rxSlice a n = s₂.rxSlice a n :=
  congrArg allValues (List.map_congr_left fun j hj => State.rxByte_congr hl (h j hj))

/-- The error entry of a DEC operation reports the same from every state. -/
theorem sameReport_raise (op : Byte) (k : ErrCode) :
    sameReport ((s₁.beginOp op).raise k .clear) ((s₂.beginOp op).raise k .clear) := by
  simp [sameReport]

theorem decAnc_congr (hl : s₁.rxlen = s₂.rxlen) (hb : s₁.rxbuf.read 9 = s₂.rxbuf.read 9)
    (h : exec .decAnc s₁ = .next t₁) : ∃ t₂, exec .decAnc s₂ = .next t₂ ∧ sameReport t₁ t₂ := by
  have hbyte := State.rxByte_congr hl hb
  rcases decodeAnc_next h with ⟨hn, rfl⟩ | ⟨hn, c, hc, hm, rfl⟩ | ⟨hn, c, m, hc, hm, rfl⟩
  · exact ⟨_, decodeAnc_of_wrong_length (hl ▸ hn), sameReport_raise _ _⟩
  · exact ⟨_, decodeAnc_of_no_mode (hl ▸ hn) (hbyte ▸ hc) hm, sameReport_raise _ _⟩
  · exact ⟨_, decodeAnc_of_mode (hl ▸ hn) (hbyte ▸ hc) hm, by simp [sameReport]⟩

/-- DEC.FWLEN's RES_FWLEN too agrees when the operation succeeds (spec/41_decoder.md R132). -/
theorem decFwlen_congr (hl : s₁.rxlen = s₂.rxlen) (hb : s₁.rxbuf.read 5 = s₂.rxbuf.read 5)
    (h : exec .decFwlen s₁ = .next t₁) : ∃ t₂, exec .decFwlen s₂ = .next t₂ ∧ sameReport t₁ t₂ ∧
      (statusValid t₁.status = true → t₂.resFwlen = t₁.resFwlen) := by
  have hbyte := State.rxByte_congr hl hb
  rcases decodeFwlen_next h with ⟨hn, rfl⟩ | ⟨hn, n, hc, rfl⟩
  · exact ⟨_, decodeFwlen_of_wrong_length (hl ▸ hn), sameReport_raise _ _, by simp⟩
  · exact ⟨_, decodeFwlen_of_byte (hl ▸ hn) (hbyte ▸ hc), by simp [sameReport], by simp⟩

/-- DEC.FWSTR reads the first n bytes, n the latched length (spec/41_decoder.md R133). -/
theorem decFwstr_congr (hl : s₁.rxlen = s₂.rxlen)
    (hb : ∀ n, s₁.resFwlen = some n → ∀ j ∈ List.range' 0 n.toNat, s₁.rxbuf.read j = s₂.rxbuf.read j)
    (hv : statusFwlenValid s₁.status = statusFwlenValid s₂.status) (hf : s₁.resFwlen = s₂.resFwlen)
    (h : exec .decFwstr s₁ = .next t₁) : ∃ t₂, exec .decFwstr s₂ = .next t₂ ∧ sameReport t₁ t₂ := by
  rcases decodeFwstr_next h with ⟨hlive, rfl⟩ | ⟨hlive, n, hn, hne, rfl⟩ | ⟨hlive, n, str, hn, heq, hs, rfl⟩
  · exact ⟨_, decodeFwstr_of_no_latch (hv.symm.trans hlive), sameReport_raise _ _⟩
  · exact ⟨_, decodeFwstr_of_wrong_length (hv.symm.trans hlive) (hf.symm.trans hn) (hl ▸ hne), sameReport_raise _ _⟩
  · have hslice := State.rxSlice_congr hl (hb n hn)
    exact ⟨_, decodeFwstr_of_bytes (hv.symm.trans hlive) (hf.symm.trans hn) (hl ▸ heq) (hslice ▸ hs),
      by simp [sameReport]⟩

theorem decSer_congr (hl : s₁.rxlen = s₂.rxlen)
    (hb : ∀ j ∈ List.range' 31 16, s₁.rxbuf.read j = s₂.rxbuf.read j)
    (h : exec .decSer s₁ = .next t₁) : ∃ t₂, exec .decSer s₂ = .next t₂ ∧ sameReport t₁ t₂ := by
  have hslice := State.rxSlice_congr hl hb
  rcases decodeSer_next h with ⟨hn, rfl⟩ | ⟨hn, str, hs, rfl⟩
  · exact ⟨_, decodeSer_of_wrong_length (hl ▸ hn), sameReport_raise _ _⟩
  · exact ⟨_, decodeSer_of_bytes (hl ▸ hn) (hslice ▸ hs), by simp [sameReport]⟩

end
end Sys2Proof.Machine
end

section
/-! SUPPORT. The statements of spec/41_decoder.md settled. -/

namespace Sys2Proof.Machine

/-- Settles O18, by the three outcomes of DEC.FWSTR, the latch checked before the length. -/
theorem decFwstrTakesTheFirstBytes : Obligations.DecFwstrTakesTheFirstBytes := by
  refine ⟨rfl, fun s => ⟨exec_decFwstr_of_no_latch, fun hv n hn => ⟨?_, fun bytes hb hl => ?_⟩⟩⟩
  · exact exec_decFwstr_of_wrong_length hv hn
  · exact exec_decFwstr_of_bytes hv hn hb hl

/-- Settles O19: the slice from 31 of 16 bytes has byte 31 + k at its index k. -/
theorem decSerTakesTheSerialBytes : Obligations.DecSerTakesTheSerialBytes := by
  refine ⟨rfl, fun s => ⟨exec_decSer_of_wrong_length, fun bytes hb hl => ?_⟩⟩
  refine ⟨(bytes.drop 31).take 16, by simp [hl], fun k hk => ?_, exec_decSer_of_bytes hb hl⟩
  rw [List.getElem?_take_of_lt hk, List.getElem?_drop]

/-- Settles O20: a mode's code at byte 9 is a case of success, and RES_MODE's three bits hold the code whole. -/
theorem statusDecodeRoundTrip : Obligations.StatusDecodeRoundTrip := by
  intro m s bytes ⟨hbuf, hlen⟩ hl h9
  have hrx : s.rxlen = 16 := BitVec.eq_of_toNat_eq (hlen.trans hl)
  have hc : s.rxbuf.read 9 = some (codeOf m) := by rw [hbuf, Memory.read_ofBytes, h9]
  have hm : modeOf (codeOf m) = some m := modeOf_eq_some_iff.mpr rfl
  refine ⟨romRead_rowOf_code m, _, _, exec_decAnc_of_code hrx hc hm, by simp [opDone, statusValid], rfl, ?_⟩
  rw [codeOf_low_bits]
  exact ⟨rfl, hm⟩

/-- Settles O22: of DEC.ANC's three outcomes only the one that found a mode's code leaves RES_MODE a value. -/
theorem noModeWithoutItsCode : Obligations.NoModeWithoutItsCode := by
  intro s t v h hv
  rcases decodeAnc_next h with ⟨_, rfl⟩ | ⟨_, c, _, _, rfl⟩ | ⟨hl, c, m, hc, hm, rfl⟩
  · cases hv
  · cases hv
  · cases hv
    obtain rfl := modeOf_eq_some_iff.mp hm
    have hlt : 9 < s.rxlen.toNat := hl ▸ by decide
    refine ⟨BitVec.eq_of_toNat_eq hl, by simp [ErrCode.code], m, (State.rxByte_of_lt hlt).symm.trans hc, ?_⟩
    rw [extractLsb'_eq_setWidth, codeOf_low_bits]

/-- Settles O23, operation by operation: each reads what its rule names and answers by its cases. -/
theorem decodersReadOnlyTheirOperands : Obligations.DecodersReadOnlyTheirOperands := by
  intro i s₁ s₂ t₁ hi hl hb hf h
  rcases isDec_iff.mp hi with rfl | rfl | rfl | rfl
  · obtain ⟨t₂, ht, hsame⟩ := decAnc_congr hl (hb 9 (by simp [decReads])) h
    exact ⟨t₂, ht, hsame, nofun⟩
  · obtain ⟨t₂, ht, hsame, hlen⟩ := decFwlen_congr hl (hb 5 (by simp [decReads])) h
    exact ⟨t₂, ht, hsame, fun _ => hlen⟩
  · obtain ⟨hv, hn⟩ := hf rfl
    obtain ⟨t₂, ht, hsame⟩ := decFwstr_congr hl (fun n hn j hj => hb j (by simpa [decReads, hn] using hj)) hv hn h
    exact ⟨t₂, ht, hsame, nofun⟩
  · obtain ⟨t₂, ht, hsame⟩ := decSer_congr hl hb h
    exact ⟨t₂, ht, hsame, nofun⟩

/-- Settles O16: the six codes are those of the modes, and each of R131's three outcomes is one case of DEC.ANC. -/
theorem decAncDecodesTheStatusByte : Obligations.DecAncDecodesTheStatusByte := by
  refine ⟨rfl, fun s => ⟨exec_decAnc_of_wrong_length, fun hl c hc => ⟨fun hcode => ?_, fun hcode => ?_⟩⟩⟩
  · obtain ⟨m, hm⟩ := mem_codes_iff.mp hcode
    exact exec_decAnc_of_code hl hc (modeOf_eq_some_iff.mpr hm)
  · have hnone : modeOf c = none :=
      Option.eq_none_iff_forall_ne_some.mpr fun m hm => hcode (mem_codes_iff.mpr ⟨m, modeOf_eq_some_iff.mp hm⟩)
    exact exec_decAnc_of_no_code hl hc hnone

/-- Settles O17: RXLEN 8 or not; n + 2 fits RES_RSIZE's nine bits. -/
theorem decFwlenLatchesTheLengthByte : Obligations.DecFwlenLatchesTheLengthByte :=
  ⟨rfl, fun _ => ⟨exec_decFwlen_of_wrong_length,
    fun hl n hn => ⟨_, toNat_stage2Size n, exec_decFwlen_of_byte hl hn⟩⟩⟩

end Sys2Proof.Machine
end

section
/-! SUPPORT. The checksum: eight rounds on a register whose low byte is 0 are a shift, so that the checksum's own two
bytes, low byte first, drive the register to 0; and the trailer of each frame of the lookup table. -/

namespace Sys2Proof.Machine

/-! ### The two bytes of a 16-bit value -/

/-- Two wire bytes, low byte first, are the high one above the low one (spec/20_memory.md R54, R56). -/
theorem fromLowFirst_eq_append (lo hi : Byte) : fromLowFirst lo hi = hi ++ lo := by
  refine BitVec.eq_of_getLsbD_eq fun i hi16 => ?_
  rw [BitVec.getLsbD_append, fromLowFirst]
  by_cases h : i < 8
  · simp [h, hi16]
  · have hlo : lo.getLsbD i = false := BitVec.getLsbD_of_ge lo i (by omega)
    simp [h, hi16, hlo]

/-- The two wire bytes of a 16-bit value are the value again. -/
theorem highByte_append_lowByte (v : Half) : v.extractLsb' 8 8 ++ v.extractLsb' 0 8 = v :=
  (BitVec.extractLsb'_append_extractLsb'_eq_extractLsb' rfl).trans BitVec.extractLsb'_eq_self

/-! ### The rounds -/

/-- While the low bits are 0 no round adds the polynomial. -/
theorem crcShifts_of_low_bits_zero {k : Nat} {c : Half} (h : ∀ i < k, c.getLsbD i = false) :
    crcShifts k c = c >>> k := by
  induction k generalizing c with
  | zero => simp [crcShifts]
  | succ k ih =>
    have hshift : crcShift c = c >>> 1 := by simp only [crcShift, h 0 k.succ_pos, Bool.false_eq_true, if_false]
    have hlow : ∀ i < k, (c >>> 1).getLsbD i = false := fun i hi => by
      rw [BitVec.getLsbD_ushiftRight]
      exact h _ (by omega)
    rw [crcShifts, hshift, ih hlow, ← BitVec.shiftRight_add, Nat.add_comm]

/-- The register's own low byte cancels itself in the register and leaves the high byte for the next byte. -/
theorem crcByte_lowByte (c : Half) : crcByte c (c.extractLsb' 0 8) = (c.extractLsb' 8 8).setWidth 16 := by
  have hlow : ∀ i < 8, (c ^^^ (c.extractLsb' 0 8).setWidth 16).getLsbD i = false := fun i hi => by
    simp [hi, show i < 16 by omega]
  rw [crcByte, crcShifts_of_low_bits_zero hlow]
  ext i hi
  by_cases h : i < 8
  · simp [h]
  · have hhigh : c.getLsbD (8 + i) = false := BitVec.getLsbD_of_ge c _ (by omega)
    simp [h, hhigh]

/-- A byte equal to the whole register leaves 0. -/
theorem crcByte_setWidth (b : Byte) : crcByte (b.setWidth 16) b = 0 := by
  rw [crcByte, BitVec.xor_self]
  rfl

/-- The checksum of a longer sequence goes on from the register that its start left. -/
theorem crc16_append (s t : List Byte) : crc16 (s ++ t) = t.foldl crcByte (crc16 s) := List.foldl_append

/-! ### The trailers of the lookup table's frames -/

/-- Each row's frame is some bytes and their checksum, as ASSEMBLE builds it (spec/40_encoder.md R101). -/
theorem exists_body_romRead (row : Fin 9) : ∃ body, (romRead row).frame = body ++ lowFirst (crc16 body) :=
  ⟨_, (assemble_romRead row).symm⟩

/-- A frame's last two bytes, low byte first, are the checksum of the bytes before them (spec/42_checksum.md R162). -/
theorem crc16_of_romRead_frame {row : Fin 9} {body : List Byte} {lo hi : Byte}
    (h : (romRead row).frame = body ++ [lo, hi]) : crc16 body = hi ++ lo := by
  obtain ⟨bytes, hf⟩ := exists_body_romRead row
  obtain ⟨rfl, htrailer⟩ := List.append_inj' (hf.symm.trans h) rfl
  simp only [lowFirst, List.cons.injEq, and_true] at htrailer
  obtain ⟨rfl, rfl⟩ := htrailer
  exact (highByte_append_lowByte _).symm

/-! ### What the CHK operations answer -/

section
variable {s : State}

/-- CHK.GEN answers from every RXBUF that holds a byte sequence (spec/42_checksum.md R164). -/
theorem exec_chkGen_of_bytes {bytes : List Byte} (hb : s.holdsRx bytes) :
    exec .chkGen s = .next
      { opDone 0x30 ((s.status &&& 0x40#8) ||| 0x10#8) s with resCrc := some (crc16 bytes) } := by
  obtain ⟨hbuf, hlen⟩ := hb
  have hs : s.rxSlice 0 s.rxlen.toNat = some bytes := by
    rw [State.rxSlice_of_holds hbuf hlen (by omega), hlen, List.drop_zero, List.take_length]
  have hx := checksumGen_of_bytes (s := s.beginOp 0x30) hs
  rw [State.succeed_keep] at hx
  exact hx

/-- CHK.VAL of no trailer is FRAME_LENGTH with the latch kept (spec/42_checksum.md R165; spec/60_exceptions.md R209). -/
theorem exec_chkVal_of_wrong_length (h : s.rxlen.toNat < 2) :
    exec .chkVal s = .next (opDone 0x31 ((s.status &&& 0x40#8) ||| 0x02#8) s) := by
  have hx := checksumVal_of_wrong_length (s := s.beginOp 0x31) h
  rw [State.raise_keep] at hx
  exact hx

/-- The STATUS of a successful CHK.VAL: CRC_OK says whether the trailer is the checksum (spec/42_checksum.md R165). -/
theorem statusWord_crc (c : Half) (lo hi : Byte) :
    statusWord .none true (c == fromLowFirst lo hi) false = if c = hi ++ lo then 0x30#8 else 0x10#8 := by
  rw [fromLowFirst_eq_append]
  by_cases h : c = hi ++ lo
  · rw [if_pos h, beq_iff_eq.mpr h]
    rfl
  · rw [if_neg h, beq_eq_false_iff_ne.mpr h]
    rfl

/-- CHK.VAL of a body and its two trailer bytes succeeds, matching or not (spec/42_checksum.md R165). -/
theorem exec_chkVal_of_bytes {body : List Byte} {lo hi : Byte} (hb : s.holdsRx (body ++ [lo, hi])) :
    exec .chkVal s = .next { opDone 0x31
      ((s.status &&& 0x40#8) ||| (if crc16 body = hi ++ lo then 0x30#8 else 0x10#8)) s with
      resCrc := some (crc16 body) } := by
  obtain ⟨hbuf, hlen⟩ := hb
  have hn : s.rxlen.toNat = body.length + 2 := by simpa using hlen
  have hbody : s.rxSlice 0 (s.rxlen.toNat - 2) = some body := by
    rw [State.rxSlice_of_holds hbuf hlen (by omega)]
    simp [hn]
  have hlo : s.rxByte (s.rxlen.toNat - 2) = some lo := by
    rw [State.rxByte_of_holds hbuf hlen]
    simp [hn]
  have hhi : s.rxByte (s.rxlen.toNat - 1) = some hi := by
    rw [State.rxByte_of_holds hbuf hlen]
    simp [hn]
  have hx := checksumVal_of_bytes (s := s.beginOp 0x31) (hn ▸ by omega) hbody hlo hhi
  rw [State.succeed_keep, statusWord_crc] at hx
  exact hx

end

/-- RXLEN's nine bits hold any length that RX.LOAD takes (spec/10_state.md R29). -/
theorem State.loadRx_holdsRx (s : State) {bytes : List Byte} (h : bytes.length ≤ 265) :
    (s.loadRx bytes).holdsRx bytes :=
  ⟨rfl, by rw [State.loadRx_rxlen, BitVec.toNat_ofNat]; omega⟩

/-! ### What the operations read of STATUS -/

section
variable {s : State} {x : Byte} (h : statusFwlenValid x = statusFwlenValid s.status)
include h

/-- DEC.FWSTR reads STATUS in its latch check only (spec/41_decoder.md R133). -/
theorem decodeFwstr_of_status : decodeFwstr { s with status := x } = decodeFwstr s := by
  simp only [decodeFwstr, State.fwlenValid, h]
  rfl

/-- CHK.GEN reads STATUS only to keep the latch (spec/10_state.md R26). -/
theorem checksumGen_of_status : checksumGen { s with status := x } = checksumGen s := by
  simp only [checksumGen, State.succeed, State.setStatus, State.fwlenValid, h]
  rfl

/-- CHK.VAL reads STATUS only to keep the latch, in both its outcomes (spec/10_state.md R26). -/
theorem checksumVal_of_status : checksumVal { s with status := x } = checksumVal s := by
  simp only [checksumVal, State.succeed, State.raise, State.setStatus, State.fwlenValid, h]
  rfl

end

end Sys2Proof.Machine
end

section
/-! SUPPORT. The statements of spec/42_checksum.md settled. -/

namespace Sys2Proof.Machine

/-- Settles O25; the query-firmware value is the trailer of row 7's frame. -/
theorem chkGenComputesTheChecksum : Obligations.ChkGenComputesTheChecksum :=
  ⟨rfl, rfl, crc16_of_romRead_frame (row := 7) (lo := 0xe0) (hi := 0xd1) rfl, fun _ _ => exec_chkGen_of_bytes⟩

/-- Settles O26, by CHK.VAL's two outcomes; each frame ends with the checksum of the bytes before it. -/
theorem chkValComparesTheTrailer : Obligations.ChkValComparesTheTrailer := by
  refine ⟨rfl, rfl, crc16_of_romRead_frame (row := 0) rfl, fun _ => exec_chkVal_of_wrong_length,
    fun _ _ _ _ => exec_chkVal_of_bytes, fun row => ?_⟩
  obtain ⟨body, hf⟩ := exists_body_romRead row
  exact ⟨body, _, _, hf, crc16_of_romRead_frame hf⟩

/-- Settles O27: the two bytes of a checksum are that checksum again, so that CHK.VAL finds them equal. -/
theorem appendedChecksumValidates : Obligations.AppendedChecksumValidates := by
  intro s bytes hlen
  have hb : (s.loadRx (bytes ++ lowFirst (crc16 bytes))).holdsRx (bytes ++ lowFirst (crc16 bytes)) :=
    s.loadRx_holdsRx (by simpa [lowFirst] using hlen)
  have hx := exec_chkVal_of_bytes hb
  rw [if_pos (highByte_append_lowByte _).symm] at hx
  exact ⟨_, hx, by simp [opDone, statusValid], by simp [opDone, statusCrcOk], rfl⟩

/-- Settles O28: the low byte of the checksum leaves its high byte in the register, and that byte leaves 0. -/
theorem checksumOverItsTrailerIsZero : Obligations.ChecksumOverItsTrailerIsZero := by
  intro bytes
  rw [crc16_append, lowFirst, List.foldl_cons, List.foldl_cons, List.foldl_nil, crcByte_lowByte, crcByte_setWidth]

/-- Settles O29: ENC, DEC.ANC, DEC.FWLEN and DEC.SER read nothing of STATUS, the other three its latch alone. -/
theorem operationsReadOnlyTheLatchOfStatus : Obligations.OperationsReadOnlyTheLatchOfStatus := by
  intro i s x h
  rcases isEnc_or_reader i with hi | rfl | rfl | rfl | rfl | rfl | rfl
  · obtain ⟨row, hx⟩ := exec_of_isEnc hi
    rw [hx, hx]
    rfl
  · rfl
  · rfl
  · exact decodeFwstr_of_status (s := s.beginOp 0x22) h
  · rfl
  · exact checksumGen_of_status (s := s.beginOp 0x30) h
  · exact checksumVal_of_status (s := s.beginOp 0x31) h

/-- Settles O15: a frame is its body and the body's checksum, FLEN - 2 being the body's length. -/
theorem romTrailersAreTheChecksums : Obligations.RomTrailersAreTheChecksums := by
  refine ⟨fun row => ?_, by decide +kernel⟩
  obtain ⟨body, hf⟩ := exists_body_romRead row
  have hlen : (romRead row).flen - 2 = body.length := by
    rw [← romRead_frame_length, hf, List.length_append]
    rfl
  rw [hlen, hf, List.drop_left, List.take_left]

/-- Settles O24, by evaluation of the checksum on the five given sequences. -/
theorem checksumCheckValues : Obligations.ChecksumCheckValues := by
  unfold Obligations.ChecksumCheckValues
  decide +kernel

end Sys2Proof.Machine
end

section
/-! SUPPORT. The statements of spec/43_lookup_table.md settled. -/

namespace Sys2Proof.Machine

/-- MODE_OF has a value exactly on the modes' codes (spec/43_lookup_table.md R191). -/
theorem modeOf_isSome_iff {c : Byte} : (modeOf c).isSome = true ↔ ∃ m, codeOf m = c := by
  simp only [Option.isSome_iff_exists, modeOf_eq_some_iff]

/-- A mode's row stands for the command that sets that mode (spec/43_lookup_table.md R182 to R187). -/
theorem romRead_rowOf_cmd (m : AncMode) : (romRead (rowOf m)).cmd = .setAnc m := by
  cases m <;> rfl

/-- Settles O4: the write is the first half of O12, where the word of a mode is ENC_COMMON of the mode's row. -/
theorem setAncWordWritesTheModesFrame : Obligations.SetAncWordWritesTheModesFrame := by
  refine ⟨rfl, fun m => ⟨romRead_rowOf_cmd m, romRead_rowOf_code m, fun s => ?_⟩⟩
  obtain ⟨t, hissue, hlen, hbuf⟩ := encoderIsDeterministic.1 m s
  exact ⟨t, hissue, hbuf, hlen⟩

/-- Settles O21: that MODE_OF inverts CODE_OF gives both laws, and its domain is then the list of the codes. -/
theorem modeAndCodeAreInverse : Obligations.ModeAndCodeAreInverse :=
  ⟨rfl, fun _ => modeOf_eq_some_iff.mpr rfl, fun _ _ => modeOf_eq_some_iff.mp,
    fun _ => modeOf_isSome_iff.trans mem_codes_iff.symm⟩

end Sys2Proof.Machine
end

section
/-! SUPPORT. What a step does as its next input or line says: an issue, a load, TX.READ and the channel actions, and
a step that changes nothing run any number of times. -/

namespace Sys2Proof.Machine

variable {s : State}

/-! ### An issue -/

/-- An issued word runs its operation (spec/60_exceptions.md R218). -/
theorem issueWord_of_decodeWord {op : Byte} {i : Instr} (h : decodeWord op = some i) (s : State) :
    issueWord op s = exec i s := by
  rw [issueWord_eq, h]

/-- An issued reserved word leaves ILLEGAL_OP and keeps the latch (spec/60_exceptions.md R205). -/
theorem issueWord_of_reserved {op : Byte} (h : reservedWord op = true) (s : State) :
    issueWord op s = .next (opDone op ((s.status &&& 0x40#8) ||| 0x04#8) s) := by
  rw [issueWord_eq, decodeWord_of_reserved h]
  simp only [illegalOp, State.raise_keep]
  rfl

theorem statusErr_of_reserved {op : Byte} {s t : State} (hr : reservedWord op = true)
    (h : issueWord op s = .next t) : statusErr t.status = 4 := by
  rw [issueWord_eq, decodeWord_of_reserved hr] at h
  cases h
  exact statusErr_statusWord ..

/-- STATUS is one of the FCB's registers. -/
theorem State.status_eq_of_fcb_eq {s t : State} (h : t.fcb = s.fcb) : t.status = s.status := by
  have hst : t.fcb.status = s.fcb.status := congrArg State.status h
  exact hst

theorem step_issue_input {op : Byte} {rest : List Input} (h : s.script = []) (hi : s.inputs = .issue op :: rest) :
    step s = issueWord op { s with inputs := rest } :=
  machineStep_input h hi

theorem step_issue_line {op : Byte} {rest : List ExchangeStep} (h : s.script = .issue op :: rest) :
    step s = issueWord op { s with script := rest } :=
  machineStep_script h

/-- A one-byte table word is that byte (spec/30_encoding.md R70). -/
theorem decodeTableWord_byte (w : Nat) : decodeTableWord 8 w = decodeWord (BitVec.ofNat 8 (w % 2 ^ 8)) := by
  have hb : tableBytes 8 w = [BitVec.ofNat 8 (w % 2 ^ 8)] := by simp [tableBytes]
  simp only [decodeTableWord, hb, decode]
  cases decodeWord (BitVec.ofNat 8 (w % 2 ^ 8)) <;> rfl

/-! ### The channel actions -/

/-- Why a channel that is not connected refuses an action (spec/60_exceptions.md R222;
spec/70_reset_and_hazards.md R243). -/
theorem channel_actions_refused {r : Refusal}
    (h : (s.channel = .dead ∧ r = .channelDead) ∨ (s.channel = .absent ∧ r = .channelAbsent)) :
    (∀ bytes, s.channelWrite bytes = .refused r) ∧ ∀ n, s.channelRead n = .refused r := by
  rcases h with ⟨hc, rfl⟩ | ⟨hc, rfl⟩ <;> simp [State.channelWrite, State.channelRead, hc]

theorem channelRead_of_unanswered (hc : s.channel = .connected) (hd : s.readDraws = []) (n : Nat) :
    s.channelRead n = .waiting := by
  simp [State.channelRead, hc, hd]

theorem channelRead_of_length {n : Nat} {b : List Byte} {ds : List ReadDraw} (hc : s.channel = .connected)
    (hd : s.readDraws = .bytes b :: ds) (hb : b.length = n) :
    s.channelRead n = .done b { s with readDraws := ds } := by
  simp [State.channelRead, hc, hd, hb]

theorem channelRead_of_wrong_length {n : Nat} {d : ReadDraw} {ds : List ReadDraw} (hc : s.channel = .connected)
    (hd : s.readDraws = d :: ds) (hb : ∀ b, d = .bytes b → b.length ≠ n) :
    s.channelRead n = .failed { s with channel := .dead, readDraws := ds } := by
  cases d with
  | ioError => simp [State.channelRead, hc, hd]
  | bytes b => simp [State.channelRead, hc, hd, hb b rfl]

theorem channelWrite_of_ok {bytes : List Byte} {ds : List WriteDraw} (hc : s.channel = .connected)
    (hd : s.writeDraws = .ok :: ds) :
    s.channelWrite bytes = .done [] { s with sent := s.sent ++ bytes, writeDraws := ds } := by
  simp [State.channelWrite, hc, hd]

theorem channelWrite_of_ioError {bytes : List Byte} {ds : List WriteDraw} (hc : s.channel = .connected)
    (hd : s.writeDraws = .ioError :: ds) :
    s.channelWrite bytes = .failed { s with channel := .dead, writeDraws := ds } := by
  simp [State.channelWrite, hc, hd]

/-- A CH.READ line takes RES_RSIZE as its count; a refusal or a hang of the channel is the line's
(spec/60_exceptions.md R222, R228). -/
theorem exchangeStep_chRead_of_refused {before : State} {n : BitVec 9} {r : Refusal} (hn : s.resRsize = some n)
    (hr : s.channelRead n.toNat = .refused r) : exchangeStep .chRead before s = .refused r := by
  simp only [exchangeStep, hn, hr]

theorem exchangeStep_chRead_of_waiting {before : State} {n : BitVec 9} (hn : s.resRsize = some n)
    (hr : s.channelRead n.toNat = .waiting) : exchangeStep .chRead before s = .next before := by
  simp only [exchangeStep, hn, hr]

/-- An unanswered CH.READ, outside or inside an exchange, leaves the whole state (spec/60_exceptions.md R228). -/
theorem step_of_unanswered_read (hc : s.channel = .connected) (hd : s.readDraws = [])
    (hr : (∃ n rest, s.script = [] ∧ s.inputs = .chRead n :: rest) ∨
      (∃ n rest, s.script = .chRead :: rest ∧ s.resRsize = some n)) : step s = .next s := by
  rcases hr with ⟨n, rest, h, hi⟩ | ⟨n, rest, h, hn⟩
  · apply step_input h hi
    simp only [inputStep, chRead, channelRead_of_unanswered (s := { s with inputs := rest }) hc hd]
  · exact step_script h (exchangeStep_chRead_of_waiting hn
      (channelRead_of_unanswered (s := { s with script := rest }) hc hd n.toNat))

/-- A step that changes nothing, run any number of times, changes nothing. -/
theorem run_of_step_self (h : step s = .next s) (k : Nat) : Host.Core.run Sys2Proof.core k s = .next s := by
  induction k with
  | zero => rfl
  | succ k ih => exact run_succ h ih

end Sys2Proof.Machine
end

section
/-! SUPPORT. The statements of spec/60_exceptions.md about single steps and operations settled. -/

namespace Sys2Proof.Machine

/-- Settles O30: a failed issue leaves only the error entry's registers, and the latch as O31 says; an ENC word always
succeeds. -/
theorem failedOperationWritesOnlyItsError : Obligations.FailedOperationWritesOnlyItsError := by
  intro op s t h he
  have hI := issued_of_issueWord h
  have hv : statusValid t.status = false := by simpa using mt hI.valid_iff.mp he
  obtain ⟨hreserved, hlatch⟩ := latchFollowsEachOperation op s t h
  rcases hI.failed_or_succeeded with ⟨k, f, hst, _, hk, ht⟩ | ⟨_, c, f, hst, _⟩
  · refine ⟨ht, by simpa [hst] using hk, hv, by simp [hst],
      fun hr => ⟨statusErr_of_reserved hr h, hreserved hr⟩, fun i hi => ?_⟩
    obtain ⟨hlen, hclear, hkeep⟩ := hlatch i hi
    refine ⟨?_, fun hd => ?_, hkeep⟩
    · refine eq_false_of_ne_true fun henc => ?_
      obtain ⟨row, hx⟩ := issueWord_of_isEnc (decode_singleton_eq_ok.mp hi) henc
      cases h.symm.trans (hx s)
      simp [encCommon_eq] at hv
    · by_cases hf : i = .decFwlen
      · exact (hlen hf).1.trans hv
      · exact hclear hf (.inr hd)
  · exact absurd (by simp [hst, ErrCode.code]) he

/-- Settles O34: a step writes STATUS by an issue, whose codes are at most 4, or by reset. -/
theorem noStepWritesEncodingOrTransport : Obligations.NoStepWritesEncodingOrTransport := by
  intro s t h
  cases fcbStep_of_step h with
  | quiet h => exact .inl (State.status_eq_of_fcb_eq h)
  | issue op hu h =>
    rcases (issued_of_issueWord h).failed_or_succeeded with ⟨k, f, hst, _, hk, _⟩ | ⟨_, c, f, hst, _⟩
    · rw [hst]
      exact .inr ⟨by simpa using hk, statusWord_bit7 ..⟩
    · rw [hst]
      exact .inr ⟨by simp [ErrCode.code], statusWord_bit7 ..⟩
  | load bytes hu hn => exact .inl ((State.loadRx_status _ bytes).trans (State.status_eq_of_fcb_eq hu))
  | reset =>
    rw [State.resetFcb_status]
    exact .inr (by decide)

/-- Settles O38: RXLEN's nine bits hold any admitted length, and a read of the store gives the byte loaded. -/
theorem rxLoadFillsTheBuffer : Obligations.RxLoadFillsTheBuffer := by
  intro s bytes rest h hi
  have hstep : step s = rxLoad bytes { s with inputs := rest } := machineStep_input h hi
  refine ⟨fun hn => ?_, fun hn => ?_⟩
  · obtain ⟨hbuf, hlen⟩ := State.loadRx_holdsRx { s with inputs := rest } hn
    refine ⟨_, hstep.trans (if_pos hn), hlen, fun j => ?_, rfl⟩
    rw [hbuf, Memory.read_ofBytes]
  · exact hstep.trans (if_neg (Nat.not_le.mpr hn))

/-- Settles O39. -/
theorem txReadReturnsTheFrame : Obligations.TxReadReturnsTheFrame := by
  intro s bytes rest h hi hb hl
  exact step_input h hi (txRead_of_holds (s := { s with inputs := rest }) hb hl)

/-- Settles O44: the unanswered read is a step that changes nothing, and so is any number of them. -/
theorem unansweredReadHangs : Obligations.UnansweredReadHangs :=
  fun k _ hc hd hr => run_of_step_self (step_of_unanswered_read hc hd hr) k

/-- Settles O6: the word decodes to its operation wherever the issue stands, as an input or as a line. -/
theorem stepRunsTheDecodedOperation : Obligations.StepRunsTheDecodedOperation := by
  refine ⟨fun s op i hi => ?_, fun s w i hi => ?_⟩
  · have hx := issueWord_of_decodeWord (decode_singleton_eq_ok.mp hi)
    exact ⟨fun rest h hin => (step_issue_input h hin).trans (hx _), fun rest h => (step_issue_line h).trans (hx _)⟩
  · rw [decodeTableWord_byte] at hi
    exact (step_issue_input rfl rfl).trans (issueWord_of_decodeWord hi _)

/-- Settles O7: a reserved word has no operation, and its issue is the error entry with ILLEGAL_OP. -/
theorem reservedWordRaisesIllegalOp : Obligations.ReservedWordRaisesIllegalOp := by
  intro s op hr
  exact ⟨fun rest h hi => (step_issue_input h hi).trans (issueWord_of_reserved hr _),
    fun rest h => (step_issue_line h).trans (issueWord_of_reserved hr _)⟩

/-- Settles O43: the channel refuses both actions, and each of the four ways to one passes the refusal on. -/
theorem noChannelActionOnADeadChannel : Obligations.NoChannelActionOnADeadChannel := by
  intro s r h
  refine ⟨fun bytes rest hs hi => ?_, fun n rest hs hi => ?_, fun rest hs => ?_, fun n rest hs hn => ?_⟩
  · have hw := (channel_actions_refused (s := { s with inputs := rest }) h).1 bytes
    exact (machineStep_input hs hi).trans (by simp only [inputStep, chWrite, hw])
  · have hr := (channel_actions_refused (s := { s with inputs := rest }) h).2 n
    exact (machineStep_input hs hi).trans (by simp only [inputStep, chRead, hr])
  · have hw := (channel_actions_refused (s := { s with script := rest }) h).1 s.hostTx
    exact (machineStep_script hs).trans (by simp only [exchangeStep, hw])
  · have hr := (channel_actions_refused (s := { s with script := rest }) h).2 n.toNat
    exact (machineStep_script hs).trans (exchangeStep_chRead_of_refused hn hr)

/-- Settles O45, by the draw: of the count asked for, or not. -/
theorem channelReadFillsOrFails : Obligations.ChannelReadFillsOrFails := by
  intro s n rest d ds h hi hc hd
  refine ⟨fun b hdb hb => step_input h hi ?_, fun hb => step_input h hi ?_⟩
  · have hr := channelRead_of_length (s := { s with inputs := rest }) hc (hdb ▸ hd) hb
    simp only [inputStep, chRead, hr]
  · have hr := channelRead_of_wrong_length (s := { s with inputs := rest }) hc hd hb
    simp only [inputStep, chRead, hr]

/-- Settles O46, by the draw. -/
theorem channelWriteCompletesOrFails : Obligations.ChannelWriteCompletesOrFails := by
  intro s bytes rest d ds h hi hc hd
  refine ⟨fun hdo => step_input h hi ?_, fun hde => step_input h hi ?_⟩
  · have hw := channelWrite_of_ok (s := { s with inputs := rest }) (bytes := bytes) hc (hdo ▸ hd)
    simp only [inputStep, chWrite, hw]
  · have hw := channelWrite_of_ioError (s := { s with inputs := rest }) (bytes := bytes) hc (hde ▸ hd)
    simp only [inputStep, chWrite, hw]

/-- Settles O47: each word in the lines is one of the operation map, the set-ANC line's by its mode. -/
theorem exchangesIssueDefinedWords : Obligations.ExchangesIssueDefinedWords := by
  intro e op hop
  simp only [Exchange.lines] at hop
  cases e with
  | queryAnc =>
    simp only [List.mem_cons, ExchangeStep.issue.injEq, reduceCtorEq, List.not_mem_nil, or_false, false_or] at hop
    rcases hop with rfl | rfl <;> decide
  | setAnc m =>
    obtain rfl : op = setAncWord m := by simpa using hop
    cases m <;> decide
  | queryDeviceInfo =>
    simp only [List.mem_cons, ExchangeStep.issue.injEq, reduceCtorEq, List.not_mem_nil, or_false, false_or] at hop
    rcases hop with rfl | rfl | rfl | rfl | rfl <;> decide

end Sys2Proof.Machine
end

section
/-! SUPPORT. The exchanges line by line: where a run stands in an exchange, what its lines do from there, and how a
run ends it (spec/60_exceptions.md R222 to R229). -/

namespace Sys2Proof.Machine

/-- An exchange stands at `lines`, between the inputs, on a connected channel that will answer `ws` and `rs`, with
`out` sent so far: all that its lines to come take from the host and the channel. -/
structure State.AtLines (s : State) (lines : List ExchangeStep) (rest : List Input) (ws : List WriteDraw)
    (rs : List ReadDraw) (out : List Byte) : Prop where
  script : s.script = lines
  inputs : s.inputs = rest
  channel : s.channel = .connected
  writeDraws : s.writeDraws = ws
  readDraws : s.readDraws = rs
  sent : s.sent = out

/-- What the start of an exchange leaves; tied to the step by `step_exchange`. -/
def State.started (e : Exchange) (rest : List Input) (s : State) : State :=
  { s with inputs := rest, script := e.lines, result := none }

/-- What ISSUE of an ENC word, TX.READ and an answered CH.WRITE leave; tied to the run by `State.AtLines.run_write`. -/
def State.afterWrite (op : Byte) (row : Fin 9) (lines : List ExchangeStep) (ws : List WriteDraw) (s : State) : State :=
  { encCommon op row s with
    script := lines, hostTx := (romRead row).frame, sent := s.sent ++ (romRead row).frame, writeDraws := ws }

/-- What an answered CH.READ and RX.LOAD leave; tied to the run by `State.AtLines.run_read`. -/
def State.afterRead (b : List Byte) (lines : List ExchangeStep) (rs : List ReadDraw) (s : State) : State :=
  { s.loadRx b with script := lines, readDraws := rs, hostRx := b }

theorem State.afterWrite_status (op : Byte) (row : Fin 9) (lines : List ExchangeStep) (ws : List WriteDraw) (s : State) :
    (s.afterWrite op row lines ws).status = 0x10 :=
  status_encCommon op row s

theorem run_one {s t : State} (h : step s = .next t) : Host.Core.run Sys2Proof.core 1 s = .next t :=
  run_succ h rfl

/-- A byte of the sequence RXBUF holds, as the store's read (spec/10_state.md R29). -/
theorem State.holdsRx.read_eq {s : State} {b : List Byte} (h : s.holdsRx b) {i : Nat} {c : Byte} (hc : b[i]? = some c) :
    s.rxbuf.read i = some c := by
  rw [h.1, Memory.read_ofBytes, hc]

/-- RXLEN of a sequence of known length (spec/10_state.md R29). -/
theorem State.holdsRx.rxlen_eq {s : State} {b : List Byte} (h : s.holdsRx b) {n : BitVec 9} (hn : b.length = n.toNat) :
    s.rxlen = n :=
  BitVec.eq_of_toNat_eq (h.2.trans hn)

/-- Two modes have two codes (spec/43_lookup_table.md R190). -/
theorem codeOf_injective : Function.Injective codeOf := fun _ _ h =>
  Option.some.inj ((modeOf_eq_some_iff.mpr rfl).symm.trans (modeOf_eq_some_iff.mpr h.symm))

/-! ### The last step of an exchange -/

section
variable {k : Nat} {s t u : State} {rest : List Input}

theorem exchangeEnds_of_step {r : ExchangeResult} (hk : Host.Core.run Sys2Proof.core k s = .next t)
    (hstep : step t = .next (u.endExchange r)) (hu : u.inputs = rest) :
    exchangeEnds (k + 1) s (u.endExchange r) r rest :=
  ⟨run_add hk (run_one hstep), rfl, rfl, hu⟩

theorem returnMode_of_mode {c : BitVec 3} {m : AncMode} (hv : statusValid s.status = true) (hc : s.resMode = some c)
    (hm : modeOf (c.setWidth 8) = some m) : returnMode s = .next (s.endExchange (.okMode m)) := by
  simp [returnMode, hv, hc, hm]

theorem returnMode_of_not_valid (hv : statusValid s.status = false) :
    returnMode s = .next (s.endExchange .invalidResponse) := by
  simp [returnMode, hv]

/-- The host's text of RES_STR (spec/41_decoder.md R135). -/
theorem resultText_of_values {str : List Byte} {n : Byte} (hs : s.resStr = some str) (hn : s.resStrlen = some n) :
    s.resultText = .ok (Config.lossyText (str.take n.toNat)) := by
  simp [State.resultText, hs, hn]

theorem step_takeFirmware {lines : List ExchangeStep} {str : List Byte} {n : Byte} (h : s.script = .takeFirmware :: lines)
    (hs : s.resStr = some str) (hn : s.resStrlen = some n) :
    step s = .next { s with script := lines, hostFw := Config.lossyText (str.take n.toNat) } := by
  apply step_script h
  simp only [exchangeStep, resultText_of_values (s := { s with script := lines }) hs hn]

theorem step_takeSerial {lines : List ExchangeStep} {str : List Byte} {n : Byte} (h : s.script = .takeSerial :: lines)
    (hs : s.resStr = some str) (hn : s.resStrlen = some n) :
    step s = .next { s with script := lines, hostSn := Config.lossyText (str.take n.toNat) } := by
  apply step_script h
  simp only [exchangeStep, resultText_of_values (s := { s with script := lines }) hs hn]

end

/-! ### The lines between -/

namespace State.AtLines

section
variable {s : State} {lines : List ExchangeStep} {rest : List Input} {ws : List WriteDraw} {rs : List ReadDraw}
  {out b : List Byte}

/-- The start of an exchange. -/
theorem started {e : Exchange} (hc : s.channel = .connected) :
    (s.started e rest).AtLines e.lines rest s.writeDraws s.readDraws s.sent :=
  ⟨rfl, rfl, hc, rfl, rfl, rfl⟩

section
variable {op : Byte} {row : Fin 9} (hx : ∀ s, issueWord op s = .next (encCommon op row s))
include hx

/-- ISSUE, TX.READ and a CH.WRITE that is Ok (spec/60_exceptions.md R219). -/
theorem run_write (h : s.AtLines (.issue op :: .txRead :: .chWrite :: lines) rest (.ok :: ws) rs out) :
    Host.Core.run Sys2Proof.core 3 s = .next (s.afterWrite op row lines ws) ∧
      (s.afterWrite op row lines ws).AtLines lines rest ws rs (out ++ (romRead row).frame) :=
  ⟨run_encode_write_ok h.script hx h.channel h.writeDraws,
    rfl, h.inputs, h.channel, rfl, h.readDraws, congrArg (· ++ _) h.sent⟩

/-- ISSUE, TX.READ and a CH.WRITE that fails end the exchange (spec/60_exceptions.md R222). -/
theorem ends_of_write_failed {k : Nat} {s₀ : State} (hk : Host.Core.run Sys2Proof.core k s₀ = .next s)
    (h : s.AtLines (.issue op :: .txRead :: .chWrite :: lines) rest (.ioError :: ws) rs out) :
    ∃ t, exchangeEnds (k + 3) s₀ t .transport rest ∧ t.channel = .dead ∧ t.sent = out ∧ t.readDraws = rs ∧
      t.opr = op ∧ t.status = 0x10 :=
  ⟨_, ⟨run_add hk (run_encode_write_failed h.script hx h.channel h.writeDraws), rfl, rfl, h.inputs⟩,
    rfl, h.sent, h.readDraws, rfl, status_encCommon op row s⟩

end

/-- CH.READ of the count asked for, and RX.LOAD (spec/60_exceptions.md R218, R220). -/
theorem run_read {m : BitVec 9} (h : s.AtLines (.chRead :: .rxLoad :: lines) rest ws (.bytes b :: rs) out)
    (hm : s.resRsize = some m) (hb : b.length = m.toNat) (hcap : b.length ≤ 265) :
    Host.Core.run Sys2Proof.core 2 s = .next (s.afterRead b lines rs) ∧
      (s.afterRead b lines rs).AtLines lines rest ws rs out ∧ (s.afterRead b lines rs).holdsRx b :=
  ⟨run_succ (step_chRead_done h.script h.channel h.readDraws hm hb) (run_one (step_rxLoad rfl hcap)),
    ⟨rfl, h.inputs, h.channel, h.writeDraws, rfl, h.sent⟩, s.loadRx_holdsRx hcap⟩

/-- CH.READ that fails or gives another number of bytes ends the exchange and writes no register
(spec/60_exceptions.md R220, R222). -/
theorem ends_of_read_failed {k : Nat} {s₀ : State} {m : BitVec 9} {d : ReadDraw}
    (hk : Host.Core.run Sys2Proof.core k s₀ = .next s) (h : s.AtLines (.chRead :: lines) rest ws (d :: rs) out)
    (hm : s.resRsize = some m) (hd : ∀ b, d = .bytes b → b.length ≠ m.toNat) :
    ∃ t, exchangeEnds (k + 1) s₀ t .transport rest ∧ t.channel = .dead ∧ t.opr = s.opr ∧
      t.status = s.status ∧ t.rxbuf = s.rxbuf ∧ t.resFwlen = s.resFwlen :=
  ⟨_, exchangeEnds_of_step (u := { s with script := [], channel := .dead, readDraws := rs }) hk
    (step_chRead_failed h.script h.channel h.readDraws hm hd) h.inputs,
    rfl, rfl, rfl, rfl, rfl⟩

/-- DEC.FWLEN on a stage-1 response (spec/41_decoder.md R132). -/
theorem step_fwlen {n : Byte} (h : s.AtLines (.issue 0x21 :: lines) rest ws rs out) (hb : s.holdsRx b)
    (hl : b.length = 8) (hn : b[5]? = some n) :
    ∃ t, step s = .next t ∧ t.AtLines lines rest ws rs out ∧ t.opr = 0x21 ∧ t.status = 0x50 ∧
      t.resFwlen = some n ∧ t.resRsize = some (BitVec.ofNat 9 (n.toNat + 2)) := by
  have hx := exec_decFwlen_of_byte (s := { s with script := lines }) (hb.rxlen_eq hl) (hb.read_eq hn)
  exact ⟨_, (step_issue_line h.script).trans ((issueWord_of_decodeWord rfl _).trans hx),
    ⟨rfl, h.inputs, h.channel, h.writeDraws, h.readDraws, h.sent⟩, rfl, rfl, rfl, rfl⟩

/-- DEC.FWSTR on a stage-2 response, and the text of its bytes (spec/41_decoder.md R133, R135). -/
theorem run_fwstr {n : Byte} (h : s.AtLines (.issue 0x22 :: .takeFirmware :: lines) rest ws rs out) (hb : s.holdsRx b)
    (hlatch : s.status = 0x50) (hn : s.resFwlen = some n) (hl : b.length = n.toNat + 2) :
    ∃ t, Host.Core.run Sys2Proof.core 2 s = .next t ∧ t.AtLines lines rest ws rs out ∧
      t.hostFw = Config.lossyText (b.take n.toNat) := by
  have hlive : statusFwlenValid s.status = true := by rw [hlatch]; decide
  have hx := exec_decFwstr_of_bytes (s := { s with script := .takeFirmware :: lines }) hlive hn hb hl
  refine ⟨_, run_succ ((step_issue_line h.script).trans ((issueWord_of_decodeWord rfl _).trans hx))
    (run_one (step_takeFirmware rfl rfl rfl)),
    ⟨rfl, h.inputs, h.channel, h.writeDraws, h.readDraws, h.sent⟩, ?_⟩
  simp only [List.take_take, Nat.min_self]

/-- DEC.SER on a serial response, and the text of its bytes (spec/41_decoder.md R134, R135). -/
theorem run_ser (h : s.AtLines (.issue 0x23 :: .takeSerial :: lines) rest ws rs out) (hb : s.holdsRx b)
    (hl : b.length = 47) :
    ∃ t, Host.Core.run Sys2Proof.core 2 s = .next t ∧ t.AtLines lines rest ws rs out ∧ t.status = 0x10 ∧
      t.hostFw = s.hostFw ∧ t.hostSn = Config.lossyText ((b.drop 31).take 16) := by
  have hx := exec_decSer_of_bytes (s := { s with script := .takeSerial :: lines }) hb hl
  refine ⟨_, run_succ ((step_issue_line h.script).trans ((issueWord_of_decodeWord rfl _).trans hx))
    (run_one (step_takeSerial rfl rfl rfl)),
    ⟨rfl, h.inputs, h.channel, h.writeDraws, h.readDraws, h.sent⟩, rfl, rfl, ?_⟩
  simp [List.take_take]

/-- DEC.ANC on a status response with a mode's code, and the return of that mode (spec/60_exceptions.md R223). -/
theorem ends_of_mode {k : Nat} {s₀ : State} {m : AncMode} (hk : Host.Core.run Sys2Proof.core k s₀ = .next s)
    (h : s.AtLines [.issue 0x20, .returnMode] rest ws rs out) (hb : s.holdsRx b) (hl : b.length = 16)
    (hc : b[9]? = some (codeOf m)) :
    ∃ t, exchangeEnds (k + 2) s₀ t (.okMode m) rest ∧ t.channel = .connected ∧ t.writeDraws = ws ∧
      t.readDraws = rs ∧ t.sent = out := by
  have hm : modeOf (codeOf m) = some m := modeOf_eq_some_iff.mpr rfl
  have hdec := exec_decAnc_of_code (s := { s with script := [.returnMode] }) (hb.rxlen_eq hl) (hb.read_eq hc) hm
  have hret := returnMode_of_mode
    (s := { opDone 0x20 0x10 s with script := [], resMode := some ((codeOf m).setWidth 3) })
    (by simp [opDone, statusValid]) rfl (by rw [codeOf_low_bits, hm])
  have hissue := (step_issue_line h.script).trans ((issueWord_of_decodeWord rfl _).trans hdec)
  exact ⟨_, exchangeEnds_of_step (run_add hk (run_one hissue)) (step_script rfl hret) h.inputs,
    h.channel, h.writeDraws, h.readDraws, h.sent⟩

/-- DEC.ANC on a status response without a mode's code, and the return of InvalidResponse
(spec/60_exceptions.md R223). -/
theorem ends_of_no_mode {k : Nat} {s₀ : State} {c : Byte} (hk : Host.Core.run Sys2Proof.core k s₀ = .next s)
    (h : s.AtLines [.issue 0x20, .returnMode] rest ws rs out) (hb : s.holdsRx b) (hl : b.length = 16)
    (hc : b[9]? = some c) (hm : modeOf c = none) :
    ∃ t, exchangeEnds (k + 2) s₀ t .invalidResponse rest ∧ t.channel = .connected ∧ t.writeDraws = ws ∧
      t.readDraws = rs ∧ t.sent = out ∧ t.status = 0x01 := by
  have hdec := exec_decAnc_of_no_code (s := { s with script := [.returnMode] }) (hb.rxlen_eq hl) (hb.read_eq hc) hm
  have hret := returnMode_of_not_valid (s := { opDone 0x20 0x01 s with script := [] })
    (by simp [opDone, statusValid])
  have hissue := (step_issue_line h.script).trans ((issueWord_of_decodeWord rfl _).trans hdec)
  exact ⟨_, exchangeEnds_of_step (run_add hk (run_one hissue)) (step_script rfl hret) h.inputs,
    h.channel, h.writeDraws, h.readDraws, h.sent, rfl⟩

end
end State.AtLines

/-! ### The start of an exchange, up to its first write -/

section
variable {s : State} {rest : List Input} {e : Exchange} {lines : List ExchangeStep} {op : Byte} {row : Fin 9}
  (he : e.lines = .issue op :: .txRead :: .chWrite :: lines)
  (hx : ∀ s, issueWord op s = .next (encCommon op row s))
  (h : s.script = []) (hi : s.inputs = .exchange e :: rest) (hc : s.channel = .connected)
include he hx h hi hc

theorem run_exchange_write {ws : List WriteDraw} (hw : s.writeDraws = .ok :: ws) :
    Host.Core.run Sys2Proof.core 4 s = .next ((s.started e rest).afterWrite op row lines ws) ∧
      ((s.started e rest).afterWrite op row lines ws).AtLines lines rest ws s.readDraws
        (s.sent ++ (romRead row).frame) := by
  have hat := State.AtLines.started (e := e) (rest := rest) hc
  rw [he, hw] at hat
  obtain ⟨hrun, hat⟩ := hat.run_write hx
  exact ⟨run_succ (step_exchange h hi) hrun, hat⟩

theorem exchange_ends_of_write_failed {ws : List WriteDraw} (hw : s.writeDraws = .ioError :: ws) :
    ∃ t, exchangeEnds 4 s t .transport rest ∧ t.channel = .dead ∧ t.sent = s.sent ∧ t.readDraws = s.readDraws ∧
      t.opr = op ∧ t.status = 0x10 := by
  have hat := State.AtLines.started (e := e) (rest := rest) hc
  rw [he, hw] at hat
  exact hat.ends_of_write_failed hx (run_one (step_exchange h hi))

end

end Sys2Proof.Machine
end

section
/-! SUPPORT. The stages of EXCH.QUERY_DEVICE_INFO that its outcomes share (spec/60_exceptions.md R225). -/

namespace Sys2Proof.Machine

section
variable {s : State} {rest : List Input} {ws : List WriteDraw} {rs : List ReadDraw} {r₁ r₂ : List Byte} {n : Byte}
  (h : s.script = []) (hi : s.inputs = .exchange .queryDeviceInfo :: rest) (hc : s.channel = .connected)
include h hi hc

/-- Up to DEC.FWLEN of the stage-1 response. -/
theorem deviceInfo_length (hw : s.writeDraws = .ok :: ws) (hr : s.readDraws = .bytes r₁ :: rs)
    (h₁ : r₁.length = 8) (hn : r₁[5]? = some n) :
    ∃ t, Host.Core.run Sys2Proof.core 7 s = .next t ∧
      t.AtLines (Exchange.queryDeviceInfo.lines.drop 6) rest ws rs (s.sent ++ (romRead 7).frame) ∧
      t.opr = 0x21 ∧ t.status = 0x50 ∧ t.resFwlen = some n ∧ t.resRsize = some (BitVec.ofNat 9 (n.toNat + 2)) := by
  obtain ⟨hrun, hat⟩ := run_exchange_write rfl (fun _ => rfl) h hi hc hw
  rw [hr] at hat
  obtain ⟨hread, hat, hb⟩ := hat.run_read rfl h₁ (by omega)
  obtain ⟨t, hstep, hat, hregs⟩ := hat.step_fwlen hb h₁ hn
  exact ⟨t, run_add hrun (run_add hread (run_one hstep)), hat, hregs⟩

/-- Up to the firmware text of the stage-2 response. -/
theorem deviceInfo_firmware (hw : s.writeDraws = .ok :: ws) (hr : s.readDraws = .bytes r₁ :: .bytes r₂ :: rs)
    (h₁ : r₁.length = 8) (hn : r₁[5]? = some n) (h₂ : r₂.length = n.toNat + 2) :
    ∃ t, Host.Core.run Sys2Proof.core 11 s = .next t ∧
      t.AtLines (Exchange.queryDeviceInfo.lines.drop 10) rest ws rs (s.sent ++ (romRead 7).frame) ∧
      t.hostFw = Config.lossyText (r₂.take n.toNat) := by
  obtain ⟨t, hrun, hat, _, hst, hfw, hsize⟩ := deviceInfo_length h hi hc hw hr h₁ hn
  have hcap := n.isLt
  obtain ⟨hread, hat, hb⟩ := hat.run_read hsize (h₂.trans (toNat_stage2Size n).symm) (by omega)
  obtain ⟨u, hdec, hat, htext⟩ := hat.run_fwstr hb hst hfw h₂
  exact ⟨u, run_add hrun (run_add hread hdec), hat, htext⟩

/-- Up to the serial query, written. -/
theorem deviceInfo_serialQuery (hw : s.writeDraws = .ok :: .ok :: ws)
    (hr : s.readDraws = .bytes r₁ :: .bytes r₂ :: rs)
    (h₁ : r₁.length = 8) (hn : r₁[5]? = some n) (h₂ : r₂.length = n.toNat + 2) :
    ∃ t, Host.Core.run Sys2Proof.core 14 s = .next t ∧
      t.AtLines (Exchange.queryDeviceInfo.lines.drop 13) rest ws rs
        (s.sent ++ (romRead 7).frame ++ (romRead 8).frame) ∧
      t.hostFw = Config.lossyText (r₂.take n.toNat) ∧ t.opr = 0x03 ∧ t.status = 0x10 ∧ t.resRsize = some 47 := by
  obtain ⟨t, hrun, hat, htext⟩ := deviceInfo_firmware h hi hc hw hr h₁ hn h₂
  obtain ⟨hwrite, hat⟩ := hat.run_write (row := 8) fun _ => rfl
  exact ⟨_, run_add hrun hwrite, hat, htext, rfl, State.afterWrite_status .., rfl⟩

end
end Sys2Proof.Machine
end

section
/-! SUPPORT. The statements of spec/60_exceptions.md about whole exchanges settled. -/

namespace Sys2Proof.Machine

/-- Settles O49, by the answer to the one write. -/
theorem setAncExchange : Obligations.SetAncExchange := by
  intro m s rest h hi hc
  refine ⟨fun ws hw => exchange_ends_of_write_failed rfl (issueWord_setAncWord m) h hi hc hw, fun ws hw => ?_⟩
  obtain ⟨hrun, hat⟩ := run_exchange_write rfl (issueWord_setAncWord m) h hi hc hw
  have hsize : (romRead (rowOf m)).rsize = 0 := by cases m <;> rfl
  exact ⟨_, exchangeEnds_of_step hrun (step_script hat.script rfl) rfl, hat.channel, hat.writeDraws, hat.readDraws,
    congrArg some hsize, hat.sent⟩

/-- Settles O51: each of the five failures ends the exchange from the stage reached before it. -/
theorem deviceInfoTransportFailures : Obligations.DeviceInfoTransportFailures := by
  intro s rest h hi hc
  refine ⟨fun ws hw => ?_, fun ws d₁ rs hw hr hd => ?_, fun ws r₁ n d₂ rs hw hr h₁ hn hd => ?_,
    fun ws r₁ n r₂ rs hw hr h₁ hn h₂ => ?_, fun ws r₁ n r₂ d₃ rs hw hr h₁ hn h₂ hd => ?_⟩
  · obtain ⟨t, hend, hch, hsent, _⟩ := exchange_ends_of_write_failed rfl (fun _ => rfl) h hi hc hw
    exact ⟨t, hend, hch, hsent⟩
  · obtain ⟨hrun, hat⟩ := run_exchange_write rfl (fun _ => rfl) h hi hc hw
    rw [hr] at hat
    obtain ⟨t, hend, hch, _, hst, _⟩ := hat.ends_of_read_failed hrun rfl hd
    exact ⟨t, hend, hch, hst.trans (State.afterWrite_status ..)⟩
  · obtain ⟨u, hrun, hat, hop, hst, hfw, hsize⟩ := deviceInfo_length h hi hc hw hr h₁ hn
    rw [← toNat_stage2Size n] at hd
    obtain ⟨t, hend, hch, hop', hst', _, hfw'⟩ := hat.ends_of_read_failed hrun hsize hd
    exact ⟨t, hend, hch, hop'.trans hop, hst'.trans hst, hfw'.trans hfw⟩
  · obtain ⟨u, hrun, hat, _⟩ := deviceInfo_firmware h hi hc hw hr h₁ hn h₂
    obtain ⟨t, hend, hch, _, hreads, _, hst⟩ := hat.ends_of_write_failed (row := 8) (fun _ => rfl) hrun
    exact ⟨t, hend, hch, hreads, hst⟩
  · obtain ⟨u, hrun, hat, _, hop, hst, hsize⟩ := deviceInfo_serialQuery h hi hc hw hr h₁ hn h₂
    obtain ⟨t, hend, hch, hop', hst', _⟩ := hat.ends_of_read_failed hrun hsize hd
    exact ⟨t, hend, hch, hop'.trans hop, hst'.trans hst⟩

/-- Settles O50: the serial response after the written serial query, and the return of the two texts. -/
theorem queryDeviceInfoExchange : Obligations.QueryDeviceInfoExchange := by
  intro s rest ws rs r₁ r₂ r₃ n h hi hc hw hr h₁ hn h₂ h₃
  obtain ⟨t, hrun, hat, hfw, _, _, hsize⟩ := deviceInfo_serialQuery h hi hc hw hr h₁ hn h₂
  obtain ⟨hread, hat, hb⟩ := hat.run_read hsize h₃ (by omega)
  obtain ⟨u, hdec, hat, hst, hkeep, hsn⟩ := hat.run_ser hb h₃
  have hret : step u = .next (u.endExchange (.okInfo u.hostFw u.hostSn)) := step_script hat.script rfl
  have hend := exchangeEnds_of_step (run_add hrun (run_add hread hdec)) hret hat.inputs
  have hfw' : u.hostFw = Config.lossyText (r₂.take n.toNat) := hkeep.trans hfw
  rw [hfw', hsn] at hend
  exact ⟨_, hend, hat.channel, hat.writeDraws, hat.readDraws, hst, hat.sent⟩

/-- Settles O48, by the answers: the write fails, the read fails, or DEC.ANC runs on the sixteen bytes and finds a mode
or none. -/
theorem queryAncExchange : Obligations.QueryAncExchange := by
  intro s rest h hi hc
  refine ⟨fun ws hw => ?_, fun ws d rs hw hr hd => ?_, fun ws r rs c hw hr hl hcode => ?_⟩
  · obtain ⟨t, hend, hch, hsent, hreads, _, hst⟩ := exchange_ends_of_write_failed rfl (fun _ => rfl) h hi hc hw
    exact ⟨t, hend, hch, hsent, hreads, hst⟩
  · obtain ⟨hrun, hat⟩ := run_exchange_write rfl (fun _ => rfl) h hi hc hw
    rw [hr] at hat
    obtain ⟨t, hend, hch, _, hst, hbuf, _⟩ := hat.ends_of_read_failed hrun rfl hd
    exact ⟨t, hend, hch, hbuf, hst.trans (State.afterWrite_status ..)⟩
  · obtain ⟨hrun, hat⟩ := run_exchange_write rfl (fun _ => rfl) h hi hc hw
    rw [hr] at hat
    obtain ⟨hread, hat, hb⟩ := hat.run_read rfl hl (by omega)
    by_cases hmode : ∃ m, codeOf m = c
    · obtain ⟨m, rfl⟩ := hmode
      obtain ⟨t, hend, hch, hws, hrs, hsent⟩ := hat.ends_of_mode (run_add hrun hread) hb hl hcode
      exact ⟨t, _, hend, hch, hws, hrs, hsent, fun m' hm => congrArg _ (codeOf_injective hm),
        fun hno => absurd (mem_codes_iff.mpr ⟨m, rfl⟩) hno⟩
    · have hnone : modeOf c = none :=
        Option.not_isSome_iff_eq_none.mp (mt modeOf_isSome_iff.mp hmode)
      obtain ⟨t, hend, hch, hws, hrs, hsent, hst⟩ := hat.ends_of_no_mode (run_add hrun hread) hb hl hcode hnone
      exact ⟨t, _, hend, hch, hws, hrs, hsent, fun m hm => absurd ⟨m, hm.symm⟩ hmode, fun _ => ⟨rfl, hst⟩⟩

end Sys2Proof.Machine
end

section
/-! SUPPORT. The statements of spec/70_reset_and_hazards.md settled. -/

namespace Sys2Proof.Machine

/-! ### The state right after reset -/

/-- RXBUF holds the empty sequence (spec/10_state.md R41). -/
theorem State.resetFcb_holdsRx (s : State) : s.resetFcb.holdsRx [] := ⟨rfl, rfl⟩

/-- The latch is clear, so a CHK operation, which keeps it, leaves it clear (spec/10_state.md R41). -/
theorem State.resetFcb_latch_or (s : State) (x : Byte) : (s.resetFcb.status &&& 0x40#8) ||| x = x := by simp

/-- The checksum of no bytes is its initial value (spec/42_checksum.md R164). -/
theorem crc16_nil : crc16 [] = 0xFFFF := rfl

/-! ### The bring-up -/

theorem supplyChannel_of_absent {s : State} (h : s.channel = .absent) :
    supplyChannel s = .next { s with channel := .connected } := by
  simp only [supplyChannel, h]

/-- A channel once supplied, connected or dead, is not supplied again (notes/assumptions/4.md). -/
theorem supplyChannel_of_supplied {s : State} (h : s.channel ≠ .absent) :
    supplyChannel s = .refused .channelAlreadySupplied := by
  cases hc : s.channel with
  | absent => exact absurd hc h
  | connected => simp only [supplyChannel, hc]
  | dead => simp only [supplyChannel, hc]

/-! ### The statements -/

/-- Settles O9: each DEC fails on RXLEN 0 or the clear latch, and the CHK operations take the empty sequence. -/
theorem decodersAndChecksumRightAfterReset : Obligations.DecodersAndChecksumRightAfterReset := by
  intro s
  have hgen := exec_chkGen_of_bytes s.resetFcb_holdsRx
  have hval := exec_chkVal_of_wrong_length (s := s.resetFcb) (by simp)
  rw [State.resetFcb_latch_or] at hgen hval
  rw [crc16_nil] at hgen
  exact ⟨exec_decAnc_of_wrong_length (by simp), exec_decFwlen_of_wrong_length (by simp),
    exec_decFwstr_of_no_latch (by simp [statusFwlenValid]), exec_decSer_of_wrong_length (by simp), hgen, hval⟩

/-- Settles O42: the supply as the next input, by whether there is a channel, and the idle step. -/
theorem bringUpSuppliesOneChannel : Obligations.BringUpSuppliesOneChannel := by
  intro s h
  refine ⟨fun rest hi => ?_, machineStep_idle h⟩
  have hstep : step s = supplyChannel { s with inputs := rest } := machineStep_input h hi
  exact ⟨fun hc => hstep.trans (supplyChannel_of_absent hc), fun hc => hstep.trans (supplyChannel_of_supplied hc)⟩

end Sys2Proof.Machine
end
